-- ==== Sys2Proof/Word.lean ====
section
/-! DEFINITION. The word types of the QRC codec block: a register word, a byte, a bit plane, a polynomial. -/

namespace Sys2Proof

/-- A u32 register value (00_scope.md R9, 10_state.md R31). -/
abbrev Word := BitVec 32

/-- A byte: a DRAM byte, a GF(256) element, a stream byte (00_scope.md R11, R13). -/
abbrev Byte := BitVec 8

/-- A 256 × 256 bit plane (10_state.md R45): plane bit `(x, y)` is bit `256·y + x`, so the 32-bit window word
`8·y + x div 32` is bits `32·k .. 32·k+31` of the plane. -/
abbrev Plane := BitVec 65536

/-- A polynomial over GF(256), highest degree first (00_scope.md R14). -/
abbrev Poly := List Byte

/-- The number of a polynomial register P0..P7 (30_encoding.md R129). -/
abbrev PReg := Fin 8

end Sys2Proof
end

