-- ==== Sys2Proof/Config.lean ====
section
/-! DEFINITION. The parameters of 00_scope.md R6 with their values, its OPEN parameters, and the values the spec leaves
unspecified (93_implementation_defined.md, Part B), as constants with no body. -/

namespace Sys2Proof.Config

/-- `DRAM_BYTES` (R6). -/
def dramBytes : Nat := 4096
/-- `N_POLY` (R6). -/
def nPoly : Nat := 8
/-- `POLY_LEN_MAX` (R6). -/
def polyLenMax : Nat := 256
/-- `K_MAX` (R6). -/
def kMax : Nat := 30
/-- `N_MAX` (R6). -/
def nMax : Nat := 255
/-- `MAT_DIM_MAX` (R6). -/
def matDimMax : Nat := 256
/-- `SCALE_MAX` (R6). -/
def scaleMax : Nat := 1024
/-- `VERSION_MIN` (R6). -/
def versionMin : Nat := 1
/-- `VERSION_MAX` (R6). -/
def versionMax : Nat := 40
/-- `ID_VALUE` (R6, 10_state.md R32). -/
def idValue : Word := 0x51524301#32

/-- `VERSION_TEST_LIGHT`, OPEN (R6, 46_layout_bch.md R386; log entry 13). -/
opaque versionTestLight : Bool

/-- Which 64 KiB-aligned window of the host's address space the block decodes, OPEN (R6; log entry 13). -/
opaque windowIndex : Nat

/-- `WINDOW_BASE`, 64 KiB aligned (R6, 20_memory.md R90). -/
def windowBase : Nat := 0x10000 * windowIndex

/-- The DRAM byte at an address after power-on: unspecified (70_reset_and_hazards.md R520, I11; log entry 3). -/
opaque powerOnDram : Nat → Byte

/-- The defined plane after power-on: unspecified (R520, I12; log entry 4). -/
opaque powerOnD : Plane
/-- The value plane after power-on: unspecified (R520, I12; log entry 4). -/
opaque powerOnV : Plane
/-- The reserved plane after power-on: unspecified (R520, I12; log entry 4). -/
opaque powerOnRsv : Plane

/-- The n-th unspecified 32-bit value the machine draws (93_implementation_defined.md I15 to I17; log entry 7). -/
opaque freeWord : Nat → Word
/-- The n-th unspecified byte the machine draws (I13, I17; log entry 7). -/
opaque freeByte : Nat → Byte
/-- The n-th unspecified bit the machine draws (I15, I16; log entry 7). -/
opaque freeBit : Nat → Bool
/-- The n-th unspecified plane the machine draws (I13; log entry 7). -/
opaque freePlane : Nat → Plane

end Sys2Proof.Config
end

