-- ==== Sys2Proof/Syntax.lean ====
section
/-! DEFINITION. The 52 commands of the opcode map (30_encoding.md R133), one constructor per row of spec/opcode_table.json.
A constructor's arguments are the polynomial-register fields its row uses, in the assembler's order RD, RD2, RS1, RS2
(R136); every other operand is an ARG register, which is state. -/

namespace Sys2Proof

/-- A decoded command. -/
inductive Instr where
  | nop
  | sStreamCancel
  | gfAdd
  | gfMul
  | gfInv
  | gfPow
  | gfExp
  | gfLog
  | pLoad (rd : PReg)
  | pStore (rs1 : PReg)
  | pMono (rd : PReg)
  | pAdd (rd rs1 rs2 : PReg)
  | pMul (rd rs1 rs2 : PReg)
  | pScale (rd rs1 : PReg)
  | pMulmono (rd rs1 : PReg)
  | pRem (rd rs1 rs2 : PReg)
  | pEval (rs1 : PReg)
  | pGen (rd : PReg)
  | pEuclid (rd rd2 rs1 rs2 : PReg)
  | rsEncode
  | rsSyndrome
  | rsDecode
  | mNew
  | mSet
  | mGet
  | mRect
  | mNegate
  | mTranspose
  | mBorder
  | mPopcount
  | mCountPattern
  | mCountBoxes
  | mAssertDrawn
  | mPenalty
  | rRaw
  | rGif
  | bFormat
  | bVersion
  | bFormatDecode
  | bVersionDecode
  | lTemplate
  | lReserve
  | lFormatRead
  | lVersionRead
  | lDraw
  | lRead
  | zStart
  | zNext
  | zPut
  | zGet
  | lMaskApply
  | lMaskBit
  deriving DecidableEq, Repr

end Sys2Proof
end

