-- ==== Sys2Proof/Machine/State.lean ====
section
/-! DEFINITION. The state of the QRC codec block (10_state.md), the accesses the host still has to make, the reasons the model
stops, and the state after a power-on reset (10_state.md R56, 70_reset_and_hazards.md R520, R521). Plain data throughout. -/

namespace Sys2Proof.Machine

/-- The fields of STATUS that are stored (10_state.md R34); SVALID follows SREMAIN. -/
structure Status where
  busy    : Bool
  done    : Bool
  err     : Bool
  ovr     : Bool
  errcode : Byte
  errinfo : Byte
  deriving DecidableEq, Repr

/-- The direction of the zig-zag walk: ZDIR 0 is upward, 1 is downward (10_state.md R52). -/
inductive Dir where
  | up
  | down
  deriving DecidableEq, Repr

/-- The zig-zag cursor (10_state.md R52): ZXO, ZY, ZDIR, ZJ (false: right cell next), ZDONE, ZVALID, ZMASK. -/
structure Cursor where
  xo    : Nat
  y     : Nat
  dir   : Dir
  j     : Bool
  done  : Bool
  valid : Bool
  mask  : Fin 8
  deriving DecidableEq, Repr

/-- SKIND (10_state.md R53). -/
inductive StreamKind where
  | none
  | raw
  | gif
  deriving DecidableEq, Repr

/-- The output stream (10_state.md R53): SKIND, SSCALE, SBPP, SPOS, SREMAIN. `stale` is the model's own: the host wrote the D
or V plane since the stream was armed, so its unread bytes are unspecified (70_reset_and_hazards.md R533; log entry 12). -/
structure Stream where
  kind   : StreamKind
  scale  : Nat
  bpp    : Nat
  pos    : Word
  remain : Word
  stale  : Bool
  deriving DecidableEq, Repr

/-- One host access through the port (20_memory.md R80): the word offset `A[15:2]`, and for a write the strobes `BE[3:0]` and
the data. -/
inductive Access where
  | read (a : BitVec 14)
  | write (a : BitVec 14) (be : BitVec 4) (data : Word)
  deriving DecidableEq, Repr

/-- One move of the two agents (10_state.md R30; log entry 1): a host access, or the block ending the command in flight. -/
inductive Turn where
  | host (a : Access)
  | block
  deriving DecidableEq, Repr

/-- Everything the spec gives the machine, with three fields of the model's own: `agenda`, `fresh` and `stream.stale`
(INVENTORY.md, State). -/
structure State where
  /-- CTRL.IRQ_EN (10_state.md R33). -/
  irqEn   : Bool
  /-- STATUS (R34). -/
  status  : Status
  /-- CMD: the last accepted command word (R35). -/
  cmd     : Word
  /-- ARG0..ARG7 (R36). -/
  arg     : Vector Word 8
  /-- RES0..RES3 (R38). -/
  res     : Vector Word 4
  /-- H (R44). -/
  height  : Nat
  /-- W (R44). -/
  width   : Nat
  /-- The defined plane D (R45). -/
  dplane  : Plane
  /-- The value plane V (R45). -/
  vplane  : Plane
  /-- The reserved plane RSV (R45, R48). -/
  rplane  : Plane
  /-- P0..P7 (R49). -/
  poly    : Vector Poly 8
  /-- DRAM (R50): the bytes written since power-on, addresses strictly rising (log entry 3). -/
  dram    : List Host.Cell
  /-- The zig-zag cursor (R52). -/
  cursor  : Cursor
  /-- The output stream (R53). -/
  stream  : Stream
  /-- The port's read data after the last host read (20_memory.md R80; log entry 6). -/
  rdata   : Word
  /-- The moves still to come, first one first (log entry 1). -/
  agenda  : List Turn
  /-- How many unspecified values have been drawn (log entry 7). -/
  fresh   : Nat
  deriving DecidableEq, Repr

/-- Faults: none. The block has no stop: a command that fails takes an error end and the block goes on
(60_exceptions.md R472, R476, R477); no host access signals an error (10_state.md R43). No constructor, so nothing raises one. -/
inductive Fault where
  deriving DecidableEq, Repr

/-- Refusals of the model. -/
inductive Refusal where
  /-- A command whose arm of `exec` has no meaning yet; raised by `exec` alone; safe. -/
  | notModelled (mnemonic : String)
  /-- The host wrote ARG, DRAM or a plane while `BUSY = 1`, which the spec forbids and lets a model refuse
  (70_reset_and_hazards.md R531); raised by the host port (`State.hostWrite`); safe (log entry 9). -/
  | hostWriteWhileBusy
  deriving DecidableEq, Repr

/-- What a step or a command answers. -/
abbrev Outcome := Host.Outcome State Fault Refusal

/-- Every bit of STATUS 0 (R56). -/
def Status.zero : Status := ⟨false, false, false, false, 0#8, 0#8⟩

/-- The cursor all 0, ZVALID = 0 (R52, R56). -/
def Cursor.zero : Cursor := ⟨0, 0, .up, false, false, false, 0⟩

/-- No stream armed (R53, R56); SSCALE and SBPP are DESIGN CHOICE 0 (log entry 5). -/
def Stream.zero : Stream := ⟨.none, 0, 0, 0#32, 0#32, false⟩

/-- The machine after a power-on reset (R56, R520, R521): idle, nothing placed by the host. DRAM and the planes are
unspecified: no DRAM cell is listed, and the planes are constants with no body (log entries 3, 4). -/
def State.reset : State where
  irqEn   := false
  status  := Status.zero
  cmd     := 0#32
  arg     := Vector.replicate 8 0#32
  res     := Vector.replicate 4 0#32
  height  := 0
  width   := 0
  dplane  := Config.powerOnD
  vplane  := Config.powerOnV
  rplane  := Config.powerOnRsv
  poly    := Vector.replicate 8 [0#8]
  dram    := []
  cursor  := Cursor.zero
  stream  := Stream.zero
  rdata   := 0#32
  agenda  := []
  fresh   := 0

end Sys2Proof.Machine
end

