-- ==== Sys2Proof/Machine/Ops.lean ====
section
/-! DEFINITION. The named operations over registers, DRAM, bit planes, matrix cells and the stream, and the two ways a command
ends: the error end (60_exceptions.md R472), which is this block's whole exception entry, and the success end (R473). The
block has no return from an exception (R478): the record of an error stays in STATUS until the host clears it
(Flags.lean, `State.writeStatus`). -/

namespace Sys2Proof.Machine

/-! ### Registers -/

/-- ARG[i] as an unsigned integer (30_encoding.md R124). -/
def State.argv (s : State) (i : Fin 8) : Nat := s.arg[i].toNat

/-- `RES[i] <- v` (00_scope.md R10). -/
def State.setRes (s : State) (i : Fin 4) (v : Word) : State := { s with res := s.res.set i v }

/-- `RES[i] <- n` for a non-negative integer the rule keeps below 2^32 (R9). -/
def State.setResNat (s : State) (i : Fin 4) (n : Nat) : State := s.setRes i (BitVec.ofNat 32 n)

/-- `P[r]` (R10). -/
def State.getPoly (s : State) (r : PReg) : Poly := s.poly[r]

/-- `P[r] <- p` (R10). -/
def State.setPoly (s : State) (r : PReg) (p : Poly) : State := { s with poly := s.poly.set r p }

/-! ### DRAM -/

/-- The byte written at an address since power-on, if any. -/
def Memory.lookup : List Host.Cell → Nat → Option Byte
  | [], _ => none
  | c :: m, a => if c.1 = a then some c.2 else Memory.lookup m a

/-- `DRAM[a]` (R11): the byte written last, else the unspecified power-on byte (log entry 3). -/
def Memory.read (m : List Host.Cell) (a : Nat) : Byte := (Memory.lookup m a).getD (Config.powerOnDram a)

/-- The cells of a byte list from an address on. -/
def Memory.cellsFrom : Nat → List Byte → List Host.Cell
  | _, [] => []
  | a, b :: bs => (a, b) :: Memory.cellsFrom (a + 1) bs

/-- The memory after the bytes `bs` are written from `a` on. -/
def Memory.write (m : List Host.Cell) (a : Nat) (bs : List Byte) : List Host.Cell :=
  m.filter (fun c => decide (c.1 < a)) ++ Memory.cellsFrom a bs ++ m.filter (fun c => decide (a + bs.length ≤ c.1))

/-- Addresses strictly rising, from `lo` on, and inside DRAM. -/
def Memory.wfFrom : Nat → List Host.Cell → Bool
  | _, [] => true
  | lo, c :: m => decide (lo ≤ c.1) && decide (c.1 < Config.dramBytes) && Memory.wfFrom (c.1 + 1) m

/-- The canonical form: addresses strictly rising and inside DRAM. An unlisted byte has no value of its own (it reads as the
power-on byte, a constant with no body), so no entry equals what an unlisted address holds (log entry 3). -/
def Memory.wf (m : List Host.Cell) : Bool := Memory.wfFrom 0 m

/-- `MemRead(a, n)` (R11). -/
def State.memRead (s : State) (a n : Nat) : List Byte := (List.range n).map fun i => Memory.read s.dram (a + i)

/-- `MemWrite(a, n, bs)` with `n` the length of `bs` (R11). -/
def State.memWrite (s : State) (a : Nat) (bs : List Byte) : State := { s with dram := Memory.write s.dram a bs }

/-! ### Bit planes -/

/-- The plane bit at column `x`, row `y` (10_state.md R45). -/
def Plane.get (p : Plane) (x y : Nat) : Bool := decide (x < 256) && p.getLsbD (256 * y + x)

/-- The plane with the bit at column `x`, row `y` set to `b`. -/
def Plane.set (p : Plane) (x y : Nat) (b : Bool) : Plane :=
  if x < 256 ∧ y < 256 then
    if b then p ||| (1#65536 <<< (256 * y + x)) else p &&& ~~~(1#65536 <<< (256 * y + x))
  else p

/-- The number whose bits `0 .. n-1` are `f 0 .. f (n-1)`. -/
def rowBits : Nat → (Nat → Bool) → Nat
  | 0, _ => 0
  | n + 1, f => rowBits n f ||| ((f n).toNat <<< n)

/-- The rows `0 .. h-1` of `w` bits each, 256 bits apart. -/
def gridBits : Nat → Nat → (Nat → Nat → Bool) → Nat
  | 0, _, _ => 0
  | h + 1, w, f => gridBits h w f ||| (rowBits w (fun x => f x h) <<< (256 * h))

/-- The plane whose bit `(x, y)` is `f x y` for `x < w`, `y < h`, and 0 elsewhere. -/
def Plane.ofWindow (w h : Nat) (f : Nat → Nat → Bool) : Plane := BitVec.ofNat 65536 (gridBits (min h 256) (min w 256) f)

/-- The plane with the bits `(x, y)`, `x < w`, `y < h`, that `sel` chooses set to `f x y`, the others as they were. -/
def Plane.mergeOn (p : Plane) (w h : Nat) (sel f : Nat → Nat → Bool) : Plane :=
  (p &&& ~~~(Plane.ofWindow w h sel)) ||| Plane.ofWindow w h (fun x y => sel x y && f x y)

/-- How many cells `(x, y)`, `x < w`, `y < h`, have `f x y`. -/
def countCells (w h : Nat) (f : Nat → Nat → Bool) : Nat :=
  ((List.range h).map fun y => (List.range w).countP fun x => f x y).sum

/-- Whether every cell `(x, y)`, `x < w`, `y < h`, has `f x y`. -/
def allCells (w h : Nat) (f : Nat → Nat → Bool) : Bool :=
  (List.range h).all fun y => (List.range w).all fun x => f x y

/-! ### Matrix cells (41_matrix.md R184) -/

/-- `dark(x, y) = D[y][x] AND V[y][x]` (R184). -/
def State.dark (s : State) (x y : Nat) : Bool := Plane.get s.dplane x y && Plane.get s.vplane x y

/-- `cellcode(x, y)`: 0 unset, 1 light, 2 dark (R184, 00_scope.md R15). -/
def State.cellcode (s : State) (x y : Nat) : Nat :=
  if Plane.get s.dplane x y then (if Plane.get s.vplane x y then 2 else 1) else 0

/-- `setcell(x, y, code)`: code 0 does nothing (R184). -/
def State.setcell (s : State) (x y code : Nat) : State :=
  if code = 0 then s
  else { s with dplane := Plane.set s.dplane x y true, vplane := Plane.set s.vplane x y (code == 2) }

/-- `putbit(x, y, b) = setcell(x, y, 1 + b)` (R184). -/
def State.putbit (s : State) (x y : Nat) (b : Bool) : State := s.setcell x y (1 + b.toNat)

/-- `drawn()`: every cell of the window has D = 1 (R184). -/
def State.drawn (s : State) : Bool := allCells s.width s.height (Plane.get s.dplane)

/-- A new matrix of height `h` and width `w` with these three planes (R184 `setwindow`; 10_state.md R47). -/
def State.setMatrix (s : State) (h w : Nat) (d v r : Plane) : State :=
  { s with height := h, width := w, dplane := d, vplane := v, rplane := r }

/-! ### Stream and cursor -/

/-- Cancelling the stream: `SKIND <- none; SPOS <- 0; SREMAIN <- 0` (40_system.md R161, R165, 42_render.md R237). -/
def State.cancelStream (s : State) : State :=
  { s with stream := { s.stream with kind := .none, pos := 0#32, remain := 0#32, stale := false } }

/-- `ZVALID <- 0`, the rest of the cursor kept (40_system.md R166, 47_mask_zigzag.md R447). -/
def State.invalidateCursor (s : State) : State := { s with cursor := { s.cursor with valid := false } }

/-! ### Errors and the end of a command -/

/-- The 14 error kinds (60_exceptions.md R470). -/
inductive ErrKind where
  | illegalCommand
  | invalidVersion
  | invalidMask
  | invalidEcc
  | outOfBounds
  | operandRange
  | addressRange
  | domainError
  | polyOverflow
  | divideByZero
  | rsUndecodable
  | layoutMismatch
  | wrongFormatPattern
  | wrongVersionPattern
  deriving DecidableEq, Repr

/-- The codes written to ERRCODE (R470). -/
def ErrKind.code : ErrKind → Byte
  | .illegalCommand      => 0x01#8
  | .invalidVersion      => 0x02#8
  | .invalidMask         => 0x03#8
  | .invalidEcc          => 0x04#8
  | .outOfBounds         => 0x05#8
  | .operandRange        => 0x06#8
  | .addressRange        => 0x07#8
  | .domainError         => 0x08#8
  | .polyOverflow        => 0x09#8
  | .divideByZero        => 0x0A#8
  | .rsUndecodable       => 0x0B#8
  | .layoutMismatch      => 0x0C#8
  | .wrongFormatPattern  => 0x0D#8
  | .wrongVersionPattern => 0x0E#8

/-- An error a command raises: its kind and its detail, 0..255 (00_scope.md R12, R471). -/
structure Raise where
  kind : ErrKind
  info : Byte
  deriving DecidableEq, Repr

/-- What the checks and writes of a command's rule give: an error, or the state with every write made. -/
abbrev Result := Except Raise State

/-- The error end (R472): BUSY 0, DONE 1, ERR 1, the code and the detail; nothing else changes. -/
def State.errorEnd (s : State) (e : Raise) : State :=
  { s with status := { s.status with busy := false, done := true, err := true, errcode := e.kind.code, errinfo := e.info } }

/-- The success end (R473): BUSY 0, DONE 1; ERR, ERRCODE and ERRINFO as they are. -/
def State.successEnd (s : State) : State :=
  { s with status := { s.status with busy := false, done := true } }

/-- A command performed at `s`: on an error every write is discarded (R472), else all are kept (R473). -/
def State.finish (s : State) : Result → Outcome
  | .ok t => .next t.successEnd
  | .error e => .next (s.errorEnd e)

end Sys2Proof.Machine
end

