-- ==== Sys2Proof/Machine/Operands.lean ====
section
/-! DEFINITION. The checks of operands (30_encoding.md R124 to R128, 20_memory.md R88): each `require` line of a rule is one
`require`, in the rule's order, so that the first that fails is the error reported (60_exceptions.md R474). -/

namespace Sys2Proof.Machine

/-- `require c else e`, then the rest of the rule (00_scope.md R12). -/
def require (c : Bool) (e : Raise) (rest : Unit → Result) : Result := if c then rest () else .error e

/-- A function of the rule that may raise, then the rest of the rule with its value (60_exceptions.md R474). -/
def andThen {α : Type} (r : Except Raise α) (rest : α → Result) : Result :=
  match r with
  | .error e => .error e
  | .ok a => rest a

/-- `E(i)` for an error whose detail is a small number. -/
def raise (k : ErrKind) (info : Nat) : Raise := ⟨k, BitVec.ofNat 8 info⟩

/-- A coordinate operand against a dimension (R125): `-dim ≤ c < dim`, a negative one counted from the far edge. -/
def resolve (c : Word) (dim : Nat) : Option Nat :=
  if -(dim : Int) ≤ c.toInt ∧ c.toInt < dim then
    some (if c.toInt < 0 then c.toInt + dim else c.toInt).toNat
  else none

/-- `x = resolve(ARG[i], dim, i)`, then the rest of the rule (R125). -/
def State.withCoord (s : State) (i : Fin 8) (dim : Nat) (rest : Nat → Result) : Result :=
  match resolve s.arg[i] dim with
  | none => .error (raise .outOfBounds i)
  | some x => rest x

/-- `range(ARG[i], n)` (20_memory.md R88): no wrap. -/
def State.inDram (s : State) (i : Fin 8) (n : Nat) : Bool := decide (s.argv i + n ≤ Config.dramBytes)

/-- `require range(ARG[i], n) else AddressRange(i)` (R88, R128). -/
def State.requireRange (s : State) (i : Fin 8) (n : Nat) (rest : Unit → Result) : Result :=
  require (s.inDram i n) (raise .addressRange i) rest

/-- `require lo ≤ ARG[i] ≤ hi else kind(i)` (R124, R126, R127). -/
def State.requireArg (s : State) (i : Fin 8) (lo hi : Nat) (kind : ErrKind) (rest : Unit → Result) : Result :=
  require (decide (lo ≤ s.argv i) && decide (s.argv i ≤ hi)) (raise kind i) rest

/-- A byte operand (R126). -/
def State.requireByte (s : State) (i : Fin 8) (rest : Unit → Result) : Result := s.requireArg i 0 255 .operandRange rest

/-- ARG[i] as a GF(256) element, after its byte check (R124). -/
def State.argByte (s : State) (i : Fin 8) : Byte := BitVec.ofNat 8 (s.argv i)

end Sys2Proof.Machine
end

