-- ==== Sys2Proof/Machine/Flags.lean ====
section
/-! DEFINITION. The words in which the host sees the block's fields (STATUS, CTRL, MDIM, ZSTATE), the interrupt output, and the
writes that change STATUS: acceptance of a command and the host's write-1-to-clear (10_state.md R33 to R42, R54). -/

namespace Sys2Proof.Machine

/-- A Boolean as bit `n` of a number. -/
def flagAt (n : Nat) (b : Bool) : Nat := b.toNat <<< n

/-- `STATUS.SVALID = (SREMAIN ≠ 0)` (10_state.md R34). -/
def State.svalid (s : State) : Bool := s.stream.remain != 0#32

/-- `IRQ = CTRL.IRQ_EN ∧ STATUS.DONE` (R54, 60_exceptions.md R480). -/
def State.irq (s : State) : Bool := s.irqEn && s.status.done

/-- The word a host read of CTRL returns: bit 0 IRQ_EN, SRST reads 0 (R33). -/
def State.ctrlWord (s : State) : Word := BitVec.ofNat 32 (flagAt 0 s.irqEn)

/-- The STATUS word with `svalid` in bit 4 (R34). -/
def Status.word (st : Status) (svalid : Bool) : Word :=
  BitVec.ofNat 32 (flagAt 0 st.busy + flagAt 1 st.done + flagAt 2 st.err + flagAt 3 st.ovr + flagAt 4 svalid
    + st.errcode.toNat <<< 8 + st.errinfo.toNat <<< 16)

/-- The word a host read of STATUS returns while no command is in flight (R34). -/
def State.statusWord (s : State) : Word := s.status.word s.svalid

/-- MDIM: W in bits 8:0, H in bits 24:16 (R39). -/
def State.mdimWord (s : State) : Word := BitVec.ofNat 32 (s.width % 512 + (s.height % 512) <<< 16)

/-- ZSTATE (R40). -/
def State.zstateWord (s : State) : Word :=
  BitVec.ofNat 32 (s.cursor.xo % 256 + (s.cursor.y % 256) <<< 8 + flagAt 16 (s.cursor.dir == .down) + flagAt 17 s.cursor.j
    + flagAt 18 s.cursor.done + flagAt 19 s.cursor.valid + s.cursor.mask.val <<< 20)

/-- STATUS at the acceptance of a command word (R35, 40_system.md R162): BUSY 1; DONE, ERR, ERRCODE, ERRINFO 0; OVR kept. -/
def Status.accepted (st : Status) : Status :=
  { st with busy := true, done := false, err := false, errcode := 0#8, errinfo := 0#8 }

/-- Acceptance of the command word `w`: CMD is set and the command is in flight (R35). -/
def State.accept (s : State) (w : Word) : State := { s with cmd := w, status := s.status.accepted }

/-- STATUS after a full-strobe host write of `d` (R34): DONE, ERR and OVR cleared by a 1, ERRCODE and ERRINFO with ERR. -/
def Status.clear (st : Status) (d : Word) : Status :=
  { st with
    done    := st.done && !d.getLsbD 1
    err     := st.err && !d.getLsbD 2
    ovr     := st.ovr && !d.getLsbD 3
    errcode := if d.getLsbD 2 then 0#8 else st.errcode
    errinfo := if d.getLsbD 2 then 0#8 else st.errinfo }

/-- A full-strobe host write to STATUS (R34). -/
def State.writeStatus (s : State) (d : Word) : State := { s with status := s.status.clear d }

/-- `STATUS.OVR <- 1`: a command word written while BUSY (R35). -/
def State.overrun (s : State) : State := { s with status := { s.status with ovr := true } }

end Sys2Proof.Machine
end

