-- ==== Sys2Proof/Machine/Bch.lean ====
section
/-! DEFINITION. The BCH format and version codes, their nearest-codeword decoders, and the meanings of the B_* commands
(46_layout_bch.md R370 to R377). -/

namespace Sys2Proof.Machine

/-- `bitlen(a)` (R370). -/
def bitlen (a : Nat) : Nat := if a = 0 then 0 else Nat.log2 a + 1

/-- The loop of `gf2mod`: each round shortens `a`, so `bitlen(a)` rounds are enough (R370; log entry 15). -/
def gf2modLoop (g : Nat) : Nat → Nat → Nat
  | 0, a => a
  | n + 1, a => if bitlen g ≤ bitlen a then gf2modLoop g n (a ^^^ (g <<< (bitlen a - bitlen g))) else a

/-- `gf2mod(a, g)`: the remainder over GF(2) (R370). -/
def gf2mod (a g : Nat) : Nat := gf2modLoop g (bitlen a) a

/-- `fmtcode(ecc, mask)` (R370). -/
def fmtcode (ecc mask : Nat) : Nat :=
  let d := (ecc <<< 3) ||| mask
  ((d <<< 10) ||| gf2mod (d <<< 10) 0x537) ^^^ 0x5412

/-- `vercode(v)` (R371). -/
def vercode (v : Nat) : Nat := (v <<< 12) ||| gf2mod (v <<< 12) 0x1F25

/-- `hd(a, b)`: the number of 1 bits of `a XOR b`, for words below 2^32 (R374). -/
def hammingDist (a b : Nat) : Nat := (List.range 32).countP fun i => (a ^^^ b).testBit i

/-- A candidate's distance: the smaller of its distances to the two copies (R374, R375). -/
def copyDist (code c1 c2 : Nat) : Nat := min (hammingDist code c1) (hammingDist code c2)

/-- The first candidate of least distance below `bd`, if any (R374, R375, step 2). -/
def nearest {α : Type} (dist : α → Nat) : List α → Option α → Nat → Option α × Nat
  | [], best, bd => (best, bd)
  | a :: l, best, bd => if dist a < bd then nearest dist l (some a) (dist a) else nearest dist l best bd

/-- A nearest-codeword decoder: first an exact match of either copy, then the least distance if at most 3 (R374, R375). -/
def decodeCopies {α : Type} (code : α → Nat) (candidates : List α) (bd0 : Nat) (kind : ErrKind) (c1 c2 : Nat) :
    Except Raise (α × Nat) :=
  match candidates.find? fun a => code a == c1 || code a == c2 with
  | some a => .ok (a, 0)
  | none =>
    match nearest (fun a => copyDist (code a) c1 c2) candidates none bd0 with
    | (some a, bd) => if bd ≤ 3 then .ok (a, bd) else .error (raise kind bd)
    | (none, bd) => .error (raise kind bd)

/-- `FMT_CANDIDATES`: low, medium, quartile, high, the masks increasing (R374). -/
def fmtCandidates : List (Nat × Nat) := [1, 0, 3, 2].flatMap fun e => (List.range 8).map fun m => (e, m)

/-- `fmtdecode(c1, c2)`: `((e, m), dist)` (R374). -/
def fmtdecode (c1 c2 : Nat) : Except Raise ((Nat × Nat) × Nat) :=
  decodeCopies (fun em => fmtcode em.1 em.2) fmtCandidates 16 .wrongFormatPattern c1 c2

/-- The versions 7..40 (R375). -/
def verCandidates : List Nat := (List.range 34).map (· + 7)

/-- `verdecode(c1, c2)`: `(v, dist)` (R375). -/
def verdecode (c1 c2 : Nat) : Except Raise (Nat × Nat) :=
  decodeCopies vercode verCandidates 19 .wrongVersionPattern c1 c2

/-- B_FORMAT (R372). -/
def execBFormat (s : State) : Outcome :=
  s.finish <| s.requireArg 0 0 3 .invalidEcc fun _ => s.requireArg 1 0 7 .invalidMask fun _ =>
    .ok (s.setResNat 0 (fmtcode (s.argv 0) (s.argv 1)))

/-- B_VERSION (R373). -/
def execBVersion (s : State) : Outcome :=
  s.finish <| s.requireArg 0 7 Config.versionMax .invalidVersion fun _ =>
    .ok (s.setResNat 0 (vercode (s.argv 0)))

/-- B_FORMAT_DECODE (R376). -/
def execBFormatDecode (s : State) : Outcome :=
  s.finish <| s.requireArg 0 0 0x7FFF .operandRange fun _ => s.requireArg 1 0 0x7FFF .operandRange fun _ =>
    andThen (fmtdecode (s.argv 0) (s.argv 1)) fun r =>
      .ok (((s.setResNat 0 r.1.1).setResNat 1 r.1.2).setResNat 2 r.2)

/-- B_VERSION_DECODE (R377). -/
def execBVersionDecode (s : State) : Outcome :=
  s.finish <| s.requireArg 0 0 0x3FFFF .operandRange fun _ => s.requireArg 1 0 0x3FFFF .operandRange fun _ =>
    andThen (verdecode (s.argv 0) (s.argv 1)) fun r =>
      .ok ((s.setResNat 0 r.1).setResNat 2 r.2)

end Sys2Proof.Machine
end

