-- ==== Sys2Proof/Machine/Matrix.lean ====
section
/-! DEFINITION. The matrix commands (41_matrix.md), but for M_PENALTY (Penalty.lean). A command that writes D or V cancels the
stream (40_system.md R165); one that may change H, W or RSV as a whole invalidates the cursor (R166). -/

namespace Sys2Proof.Machine

/-- M_NEW (R180). -/
def execMNew (s : State) : Outcome :=
  s.finish <| s.requireArg 0 1 Config.matDimMax .outOfBounds fun _ => s.requireArg 1 1 Config.matDimMax .outOfBounds fun _ =>
    .ok (s.setMatrix (s.argv 0) (s.argv 1) 0#65536 0#65536 0#65536).cancelStream.invalidateCursor

/-- M_GET (R181). -/
def execMGet (s : State) : Outcome :=
  s.finish <| s.withCoord 0 s.width fun x => s.withCoord 1 s.height fun y =>
    .ok (s.setResNat 0 (s.cellcode x y))

/-- M_SET (R182). -/
def execMSet (s : State) : Outcome :=
  s.finish <| s.withCoord 0 s.width fun x => s.withCoord 1 s.height fun y =>
    s.requireArg 2 0 2 .operandRange fun _ =>
    .ok (s.setcell x y (s.argv 2)).cancelStream

/-- Whether column `x`, row `y` lies in the rectangle of `w` columns and `h` rows whose corner is `(x0, y0)`. -/
def inRect (x0 y0 w h x y : Nat) : Bool := decide (x0 ≤ x ∧ x < x0 + w ∧ y0 ≤ y ∧ y < y0 + h)

/-- `setcell` on every cell of the window inside a rectangle, for one code (R183, R184). Cells outside the window are clipped
away by the window itself. -/
def State.fillRect (s : State) (x0 y0 w h code : Nat) : State :=
  if code = 0 then s
  else
    { s with
      dplane := Plane.mergeOn s.dplane s.width s.height (inRect x0 y0 w h) (fun _ _ => true)
      vplane := Plane.mergeOn s.vplane s.width s.height (inRect x0 y0 w h) (fun _ _ => code == 2) }

/-- M_RECT (R183). -/
def execMRect (s : State) : Outcome :=
  s.finish <| s.withCoord 0 s.width fun x0 => s.withCoord 1 s.height fun y0 =>
    s.requireArg 4 0 2 .operandRange fun _ =>
    .ok (s.fillRect x0 y0 (min (s.argv 2) (s.width - x0)) (min (s.argv 3) (s.height - y0)) (s.argv 4)).cancelStream

/-- Every cell of the window inverted and defined (R185). -/
def State.negate (s : State) : State :=
  { s with
    dplane := Plane.mergeOn s.dplane s.width s.height (fun _ _ => true) (fun _ _ => true)
    vplane := Plane.mergeOn s.vplane s.width s.height (fun _ _ => true) (fun x y => !Plane.get s.vplane x y) }

/-- M_NEGATE (R185). -/
def execMNegate (s : State) : Outcome := s.finish <| .ok s.negate.cancelStream

/-- M_ASSERT_DRAWN (R186). -/
def execMAssertDrawn (s : State) : Outcome :=
  s.finish <| require s.drawn (raise .layoutMismatch 1) fun _ => .ok s

/-- The matrix with rows and columns exchanged, RSV cleared (R187). -/
def State.transpose (s : State) : State :=
  s.setMatrix s.width s.height
    (Plane.ofWindow s.height s.width fun x y => Plane.get s.dplane y x)
    (Plane.ofWindow s.height s.width fun x y => Plane.get s.vplane y x)
    0#65536

/-- M_TRANSPOSE (R187). -/
def execMTranspose (s : State) : Outcome := s.finish <| .ok s.transpose.cancelStream.invalidateCursor

/-- Whether `(x, y)` of a bordered matrix lies in the copy of the old `w × h` matrix (R188). -/
def inBorderCopy (n w h x y : Nat) : Bool := decide (n ≤ x ∧ x < n + w ∧ n ≤ y ∧ y < n + h)

/-- The matrix surrounded by a frame of `n` cells of one colour, RSV cleared (R188). -/
def State.border (s : State) (n : Nat) (dark : Bool) : State :=
  s.setMatrix (s.height + 2 * n) (s.width + 2 * n)
    (Plane.ofWindow (s.width + 2 * n) (s.height + 2 * n) fun x y =>
      if inBorderCopy n s.width s.height x y then Plane.get s.dplane (x - n) (y - n) else true)
    (Plane.ofWindow (s.width + 2 * n) (s.height + 2 * n) fun x y =>
      if inBorderCopy n s.width s.height x y then Plane.get s.vplane (x - n) (y - n) else dark)
    0#65536

/-- M_BORDER (R188). -/
def execMBorder (s : State) : Outcome :=
  s.finish <|
    require (decide (s.height + 2 * s.argv 0 ≤ Config.matDimMax ∧ s.width + 2 * s.argv 0 ≤ Config.matDimMax))
      (raise .outOfBounds 0) fun _ =>
    s.requireArg 1 1 2 .operandRange fun _ =>
    .ok (s.border (s.argv 0) (s.argv 1 == 2)).cancelStream.invalidateCursor

/-- M_POPCOUNT (R189). -/
def execMPopcount (s : State) : Outcome :=
  s.finish <| .ok (s.setResNat 0 (countCells s.width s.height s.dark))

/-- The `len` cells of row `y` from column `x` on, read as a number, the leftmost cell the most significant bit (R190). -/
def State.rowWindow (s : State) (y len x : Nat) : Nat :=
  (List.range len).foldl (fun v i => 2 * v + (s.dark (x + i) y).toNat) 0

/-- How many windows of row `y` match the first pattern, or the second where there are two (R190). -/
def State.countPattern (s : State) (y len p0 p1 np : Nat) : Nat :=
  (List.range (s.width + 1 - len)).countP fun x =>
    s.rowWindow y len x == p0 || (np == 2 && s.rowWindow y len x == p1)

/-- M_COUNT_PATTERN (R190). -/
def execMCountPattern (s : State) : Outcome :=
  s.finish <| s.withCoord 0 s.height fun y =>
    s.requireArg 1 1 31 .operandRange fun _ => s.requireArg 4 1 2 .operandRange fun _ =>
    require (decide (s.argv 2 < 2 ^ s.argv 1)) (raise .operandRange 2) fun _ =>
    require (s.argv 4 != 2 || decide (s.argv 3 < 2 ^ s.argv 1)) (raise .operandRange 3) fun _ =>
    .ok (s.setResNat 0 (s.countPattern y (s.argv 1) (s.argv 2) (s.argv 3) (s.argv 4)))

/-- Whether the 2 × 2 block whose top left cell is `(x, y)` has one colour (R191, 47_mask_zigzag.md R424). -/
def boxAt (dark : Nat → Nat → Bool) (x y : Nat) : Bool :=
  dark x y == dark (x + 1) y && dark x y == dark x (y + 1) && dark x y == dark (x + 1) (y + 1)

/-- M_COUNT_BOXES (R191). -/
def execMCountBoxes (s : State) : Outcome :=
  s.finish <| s.withCoord 0 s.height fun y =>
    require (decide (y + 1 < s.height)) (raise .outOfBounds 0) fun _ =>
    .ok (s.setResNat 0 ((List.range (s.width - 1)).countP fun x => boxAt s.dark x y))

end Sys2Proof.Machine
end

