-- ==== Sys2Proof/Machine/Penalty.lean ====
section
/-! DEFINITION. The penalty of a drawn matrix and the meaning of M_PENALTY (47_mask_zigzag.md R423 to R428). A matrix is given
by its height, its width and the colour of each cell (true = dark). -/

namespace Sys2Proof.Machine

/-- The rows, left to right. -/
def matRows (h w : Nat) (dark : Nat → Nat → Bool) : List (List Bool) :=
  (List.range h).map fun y => (List.range w).map fun x => dark x y

/-- The columns, top to bottom. -/
def matCols (h w : Nat) (dark : Nat → Nat → Bool) : List (List Bool) :=
  (List.range w).map fun x => (List.range h).map fun y => dark x y

/-- Every line: the rows and the columns. -/
def matLines (h w : Nat) (dark : Nat → Nat → Bool) : List (List Bool) := matRows h w dark ++ matCols h w dark

/-- The lengths of the maximal runs of a line whose first cells are `n` of colour `b`. -/
def runLengthsFrom : Bool → Nat → List Bool → List Nat
  | _, n, [] => [n]
  | b, n, c :: l => if c = b then runLengthsFrom b (n + 1) l else n :: runLengthsFrom c 1 l

/-- The lengths of the maximal runs of a line (R423). -/
def runLengths : List Bool → List Nat
  | [] => []
  | b :: l => runLengthsFrom b 1 l

/-- What one maximal run adds (R423). -/
def runScore (n : Nat) : Nat := if 5 ≤ n then 3 + (n - 5) else 0

/-- `P1` (R423). -/
def penalty1 (h w : Nat) (dark : Nat → Nat → Bool) : Nat :=
  ((matLines h w dark).map fun l => ((runLengths l).map runScore).sum).sum

/-- `P2` (R424). -/
def penalty2 (h w : Nat) (dark : Nat → Nat → Bool) : Nat := 3 * countCells (w - 1) (h - 1) (boxAt dark)

/-- The two finder-like windows of R425. -/
def finderLike1 : List Bool := [true, false, true, true, true, false, true, false, false, false, false]
def finderLike2 : List Bool := [false, false, false, false, true, false, true, true, true, false, true]

/-- How many starts of a line have a finder-like window (R425). -/
def finderStarts : List Bool → Nat
  | [] => 0
  | b :: l => (finderLike1.isPrefixOf (b :: l) || finderLike2.isPrefixOf (b :: l)).toNat + finderStarts l

/-- `P3` (R425). -/
def penalty3 (h w : Nat) (dark : Nat → Nat → Bool) : Nat := 40 * ((matLines h w dark).map finderStarts).sum

/-- `P4` for `T` cells of which `d` are dark (R426). -/
def balancePenalty (t d : Nat) : Nat := 10 * ((if 20 * d ≤ 10 * t then 10 * t - 20 * d else 20 * d - 10 * t) / t)

/-- `P4` (R426). -/
def penalty4 (h w : Nat) (dark : Nat → Nat → Bool) : Nat := balancePenalty (h * w) (countCells w h dark)

/-- `penalty = P1 + P2 + P3 + P4` (R427). -/
def penalty (h w : Nat) (dark : Nat → Nat → Bool) : Nat :=
  penalty1 h w dark + penalty2 h w dark + penalty3 h w dark + penalty4 h w dark

/-- M_PENALTY (R428). -/
def execMPenalty (s : State) : Outcome :=
  s.finish <| require (decide (1 ≤ s.height ∧ 1 ≤ s.width)) (raise .layoutMismatch 5) fun _ =>
    require s.drawn (raise .layoutMismatch 1) fun _ =>
    .ok ((((s.setResNat 0 (penalty s.height s.width s.dark)).setResNat 1 (penalty1 s.height s.width s.dark)).setResNat 2
      (penalty2 s.height s.width s.dark)).setResNat 3 (penalty3 s.height s.width s.dark))

end Sys2Proof.Machine
end

