-- ==== Sys2Proof/Machine/Layout.lean ====
section
/-! DEFINITION. The layout template, the reservation map, the capacity, and the meanings of L_TEMPLATE, L_RESERVE,
L_FORMAT_READ and L_VERSION_READ (46_layout_bch.md R378 to R390). -/

namespace Sys2Proof.Machine

/-- `size(v) = 17 + 4·v` (00_scope.md R7). -/
def symbolSize (v : Nat) : Nat := 17 + 4 * v

/-- Whether a side length is a symbol size (R7). -/
def isSymbolSize (n : Nat) : Bool := decide (21 ≤ n ∧ n ≤ 177 ∧ n % 4 = 1)

/-- A matrix being drawn: its defined and its value plane. -/
structure Canvas where
  d : Plane
  v : Plane
  deriving DecidableEq, Repr

/-- All cells unset (R378). -/
def Canvas.blank : Canvas := ⟨0#65536, 0#65536⟩

/-- `put(x, y, b)` (R378). -/
def Canvas.put (c : Canvas) (x y : Nat) (b : Bool) : Canvas := ⟨Plane.set c.d x y true, Plane.set c.v x y b⟩

/-- Whether a cell is defined. -/
def Canvas.defined (c : Canvas) (x y : Nat) : Bool := Plane.get c.d x y

/-- `dark(x, y)` of a canvas. -/
def Canvas.dark (c : Canvas) (x y : Nat) : Bool := Plane.get c.d x y && Plane.get c.v x y

/-- A cell and the value put there. -/
abbrev Put := Nat × Nat × Bool

/-- A list of puts, in order. -/
def Canvas.draw (c : Canvas) (ps : List Put) : Canvas := ps.foldl (fun c p => c.put p.1 p.2.1 p.2.2) c

/-- `|a - b|`. -/
def absDiff (a b : Nat) : Nat := if a ≤ b then b - a else a - b

/-- The cells of an `(2·r+1) × (2·r+1)` square around `(cx, cy)` that lie in the `n × n` matrix, row by row, each with the
value `ring d` of its ring index `d = max(|x - cx|, |y - cy|)`. -/
def squarePuts (n r cx cy : Nat) (ring : Nat → Bool) : List Put :=
  (List.range (2 * r + 1)).flatMap fun j => (List.range (2 * r + 1)).filterMap fun i =>
    if r ≤ cx + i ∧ cx + i < n + r ∧ r ≤ cy + j ∧ cy + j < n + r then
      some (cx + i - r, cy + j - r, ring (max (absDiff i r) (absDiff j r)))
    else none

/-- A finder pattern with its separator (R379): rings 0, 1 and 3 dark, rings 2 and 4 light, clipped to the matrix. -/
def finderPuts (n cx cy : Nat) : List Put := squarePuts n 4 cx cy fun d => d ≤ 1 || d == 3

/-- An alignment pattern (R381): a dark centre, a light ring, a dark ring. -/
def alignPuts (n cx cy : Nat) : List Put := squarePuts n 2 cx cy fun d => d == 0 || d == 2

/-- `alignpos(v)` (R380). -/
def alignpos (v : Nat) : List Nat :=
  if v ≤ 1 then []
  else
    let last := symbolSize v - 7
    let dist := last - 6
    let count := (dist + 27) / 28
    let base := dist / count
    let interval :=
      if base % 2 = 1 then base + 1 else if count ≤ 2 * (dist % count) then base + 2 else base
    [6] ++ ((List.range (count - 1)).map fun i => last - (count - (i + 1)) * interval) ++ [last]

/-- Alignment stamping: a pattern is drawn only where its centre is not defined yet (R381). -/
def Canvas.stampAlignment (c : Canvas) (v : Nat) : Canvas :=
  (alignpos v).foldl (fun c y =>
    (alignpos v).foldl (fun c x => if c.defined x y then c else c.draw (alignPuts (symbolSize v) x y)) c) c

/-- Timing patterns: row 6, then column 6, where unset (R384). -/
def Canvas.stampTiming (c : Canvas) (n : Nat) : Canvas :=
  let c := (List.range n).foldl (fun c x => if c.defined x 6 then c else c.put x 6 (x % 2 == 0)) c
  (List.range n).foldl (fun c y => if c.defined 6 y then c else c.put 6 y (y % 2 == 0)) c

/-- `FMT1(i)` (R385). -/
def fmt1 (i : Nat) : Nat × Nat :=
  if i ≤ 5 then (8, i) else if i = 6 then (8, 7) else if i = 7 then (8, 8) else if i = 8 then (7, 8) else (14 - i, 8)

/-- `FMT2(i)` in an `n × n` matrix (R385). -/
def fmt2 (n i : Nat) : Nat × Nat := if i ≤ 7 then (n - 1 - i, 8) else (8, n - 15 + i)

/-- Format information with the 15-bit code, then the dark module (R385). -/
def Canvas.stampFormat (c : Canvas) (n code : Nat) (test : Bool) : Canvas :=
  let c := (List.range 15).foldl (fun c i =>
    (c.put (fmt1 i).1 (fmt1 i).2 (!test && code.testBit i)).put (fmt2 n i).1 (fmt2 n i).2 (!test && code.testBit i)) c
  c.put 8 (n - 8) (!test)

/-- `VER1(i)` (R386). -/
def ver1 (n i : Nat) : Nat × Nat := (n - 11 + i % 3, i / 3)

/-- `VER2(i)` (R386). -/
def ver2 (n i : Nat) : Nat × Nat := (i / 3, n - 11 + i % 3)

/-- Version information with the 18-bit code; light in test mode if VERSION_TEST_LIGHT (R386). -/
def Canvas.stampVersion (c : Canvas) (n code : Nat) (test : Bool) : Canvas :=
  (List.range 18).foldl (fun c i =>
    let b := !(test && Config.versionTestLight) && code.testBit i
    (c.put (ver1 n i).1 (ver1 n i).2 b).put (ver2 n i).1 (ver2 n i).2 b) c

/-- `template(v, ecc, mask, test)` (R378). -/
def template (v ecc mask : Nat) (test : Bool) : Canvas :=
  let n := symbolSize v
  let c := ((Canvas.blank.draw (finderPuts n 3 3)).draw (finderPuts n (n - 4) 3)).draw (finderPuts n 3 (n - 4))
  let c := (c.stampAlignment v).stampTiming n
  let c := c.stampFormat n (fmtcode ecc mask) test
  if 7 ≤ v then c.stampVersion n (vercode v) test else c

/-- `rmap(v)` as a plane: the cells `template(v, …)` defines, whatever its other arguments (R382). -/
def rmap (v : Nat) : Plane := (template v 0 0 false).d

/-- `C(v)`: the cells of the `size(v) × size(v)` matrix not in `rmap(v)` (R383). -/
def capacity (v : Nat) : Nat :=
  let r := rmap v
  countCells (symbolSize v) (symbolSize v) fun x y => !Plane.get r x y

/-- L_TEMPLATE (R387). -/
def execLTemplate (s : State) : Outcome :=
  s.finish <| s.requireArg 0 1 Config.versionMax .invalidVersion fun _ => s.requireArg 1 0 3 .invalidEcc fun _ =>
    s.requireArg 2 0 7 .invalidMask fun _ => s.requireArg 3 0 1 .operandRange fun _ =>
    let c := template (s.argv 0) (s.argv 1) (s.argv 2) (s.argv 3 == 1)
    .ok (((s.setMatrix (symbolSize (s.argv 0)) (symbolSize (s.argv 0)) c.d c.v
      (rmap (s.argv 0))).cancelStream.invalidateCursor.setResNat 0 (symbolSize (s.argv 0))).setResNat 1
        (capacity (s.argv 0)))

/-- L_RESERVE (R388): D, V, H, W and the stream unchanged. -/
def execLReserve (s : State) : Outcome :=
  s.finish <| s.requireArg 0 1 Config.versionMax .invalidVersion fun _ =>
    .ok ((State.invalidateCursor { s with rplane := rmap (s.argv 0) }).setResNat 0 (capacity (s.argv 0)))

/-- Whether the matrix is square of a symbol size (R389, R390, 47_mask_zigzag.md R443). -/
def State.isSymbol (s : State) : Bool := decide (s.height = s.width) && isSymbolSize s.width

/-- `sum over i of dark(at(i)) << i` for `n` cells (R389, R390). -/
def State.readBits (s : State) (n : Nat) (cell : Nat → Nat × Nat) : Nat :=
  rowBits n fun i => s.dark (cell i).1 (cell i).2

/-- L_FORMAT_READ (R389). -/
def execLFormatRead (s : State) : Outcome :=
  s.finish <| require s.isSymbol (raise .layoutMismatch 3) fun _ =>
    let c1 := s.readBits 15 fmt1
    let c2 := s.readBits 15 (fmt2 s.width)
    andThen (fmtdecode c1 c2) fun r =>
      .ok ((((s.setResNat 0 r.1.1).setResNat 1 r.1.2).setResNat 2 r.2).setResNat 3 (c1 ||| (c2 <<< 16)))

/-- L_VERSION_READ (R390). -/
def execLVersionRead (s : State) : Outcome :=
  s.finish <| require s.isSymbol (raise .layoutMismatch 3) fun _ =>
    if (s.width - 17) / 4 < 7 then
      .ok ((((s.setResNat 0 ((s.width - 17) / 4)).setResNat 1 0).setResNat 2 0).setResNat 3 0)
    else
      let c1 := s.readBits 18 (ver1 s.width)
      let c2 := s.readBits 18 (ver2 s.width)
      andThen (verdecode c1 c2) fun r =>
        .ok ((((s.setResNat 0 r.1).setResNat 1 c1).setResNat 2 r.2).setResNat 3 c2)

end Sys2Proof.Machine
end

