-- ==== Sys2Proof/Machine/Mask.lean ====
section
/-! DEFINITION. The eight mask predicates and the meanings of L_MASK_BIT and L_MASK_APPLY (47_mask_zigzag.md R420 to R422). -/

namespace Sys2Proof.Machine

/-- `maskbit(m, x, y)`, `m` in 0..7 (R420). -/
def maskbit (m x y : Nat) : Bool :=
  match m with
  | 0 => (x + y) % 2 == 0
  | 1 => y % 2 == 0
  | 2 => x % 3 == 0
  | 3 => (x + y) % 3 == 0
  | 4 => (y / 2 + x / 3) % 2 == 0
  | 5 => (x * y) % 2 + (x * y) % 3 == 0
  | 6 => ((x * y) % 2 + (x * y) % 3) % 2 == 0
  | _ => ((x + y) % 2 + (x * y) % 3) % 2 == 0

/-- L_MASK_BIT (R421). -/
def execLMaskBit (s : State) : Outcome :=
  s.finish <| s.requireArg 0 0 7 .invalidMask fun _ => s.requireByte 1 fun _ => s.requireByte 2 fun _ =>
    .ok (s.setResNat 0 (maskbit (s.argv 0) (s.argv 1) (s.argv 2)).toNat)

/-- The mask XORed into the drawn cells of the window that are not reserved (R422). -/
def State.applyMask (s : State) (m : Nat) : State :=
  { s with
    vplane := Plane.mergeOn s.vplane s.width s.height (fun x y => !Plane.get s.rplane x y && Plane.get s.dplane x y)
      (fun x y => Plane.get s.vplane x y ^^ maskbit m x y) }

/-- L_MASK_APPLY (R422). -/
def execLMaskApply (s : State) : Outcome :=
  s.finish <| s.requireArg 0 0 7 .invalidMask fun _ => .ok (s.applyMask (s.argv 0)).cancelStream

end Sys2Proof.Machine
end

