-- ==== Sys2Proof/Machine/Zigzag.lean ====
section
/-! DEFINITION. The zig-zag walk and the sequencer (47_mask_zigzag.md R440 to R447), with the meanings of the Z_* commands. -/

namespace Sys2Proof.Machine

/-- The cells of the column pair `(xo, xo-1)` of an `n × n` matrix, upward or downward (R440). -/
def walkPair (n xo : Nat) (up : Bool) : List (Nat × Nat) :=
  (if up then (List.range n).reverse else List.range n).flatMap fun y => [(xo, y), (xo - 1, y)]

/-- The column pairs of the walk from `xo` on, the column 6 skipped (R440); each pair takes two columns, so `n` rounds are
enough (log entry 15). -/
def walkFrom (n : Nat) : Nat → Nat → Bool → List (Nat × Nat)
  | 0, _, _ => []
  | k + 1, xo, up =>
    if 0 < xo then
      let x := if xo = 6 then 5 else xo
      walkPair n x up ++ walkFrom n k (x - 2) (!up)
    else []

/-- `walk(s)` (R440). -/
def walk (n : Nat) : List (Nat × Nat) := walkFrom n n (n - 1) true

/-- `zz(v)`: the walk with the cells of `rmap(v)` left out (R429, R440). -/
def zz (v : Nat) : List (Nat × Nat) :=
  let r := rmap v
  (walk (symbolSize v)).filter fun c => !Plane.get r c.1 c.2

/-- The opposite direction (R440). -/
def Dir.opposite : Dir → Dir
  | .up => .down
  | .down => .up

/-- The candidate cell `(ZXO - ZJ, ZY)` (R441). -/
def Cursor.cell (c : Cursor) : Nat × Nat := (c.xo - c.j.toNat, c.y)

/-- The end of a column pair: turn, and the next pair to the left, or the end of the walk (R441). -/
def Cursor.nextPair (c : Cursor) : Cursor :=
  if c.xo ≤ 2 then { c with dir := c.dir.opposite, j := false, done := true }
  else { c with dir := c.dir.opposite, j := false, xo := if c.xo - 2 = 6 then 5 else c.xo - 2 }

/-- `advance()` in an `n × n` matrix (R441). -/
def Cursor.advance (n : Nat) (c : Cursor) : Cursor :=
  if !c.j then { c with j := true }
  else
    match c.dir with
    | .up => if 0 < c.y then { c with j := false, y := c.y - 1 } else c.nextPair
    | .down => if c.y + 1 < n then { c with j := false, y := c.y + 1 } else c.nextPair

/-- `seek()`: reserved candidates are stepped over until the walk ends (R442), in at most `k` steps. -/
def Cursor.seekFor (rsv : Plane) (n : Nat) : Nat → Cursor → Cursor
  | 0, c => c
  | k + 1, c =>
    if !c.done && Plane.get rsv c.cell.1 c.cell.2 then Cursor.seekFor rsv n k (c.advance n) else c

/-- More steps than any walk from `c` has left: two per row of each column pair still to come (log entry 15). -/
def Cursor.fuel (n : Nat) (c : Cursor) : Nat := (c.xo + 2) * (2 * (n + c.y) + 4)

/-- `seek()` (R442). -/
def Cursor.seek (rsv : Plane) (n : Nat) (c : Cursor) : Cursor := Cursor.seekFor rsv n (c.fuel n) c

/-- The cursor of the state after `seek()` (R442). -/
def State.sought (s : State) : Cursor := s.cursor.seek s.rplane s.width

/-- The mask bit of a cell for ZMASK (R444 to R446). -/
def Cursor.maskAt (c : Cursor) : Bool := maskbit c.mask.val c.cell.1 c.cell.2

/-- Z_START (R443). -/
def execZStart (s : State) : Outcome :=
  s.finish <| s.requireArg 0 0 7 .invalidMask fun _ => require s.isSymbol (raise .layoutMismatch 3) fun _ =>
    .ok { s with cursor := ⟨s.width - 1, s.width - 1, .up, false, false, true, Fin.ofNat 8 (s.argv 0)⟩ }

/-- The four results of a cursor command. -/
def State.setCursorRes (s : State) (a b c d : Nat) : State :=
  (((s.setResNat 0 a).setResNat 1 b).setResNat 2 c).setResNat 3 d

/-- Z_NEXT (R444). -/
def execZNext (s : State) : Outcome :=
  s.finish <| require s.cursor.valid (raise .layoutMismatch 4) fun _ =>
    let c := s.sought
    if c.done then .ok (State.setCursorRes { s with cursor := c } 0 0 0 1)
    else .ok (State.setCursorRes { s with cursor := c.advance s.width } c.cell.1 c.cell.2 c.maskAt.toNat 0)

/-- Z_PUT (R445). -/
def execZPut (s : State) : Outcome :=
  s.finish <| s.requireArg 0 0 1 .operandRange fun _ => require s.cursor.valid (raise .layoutMismatch 4) fun _ =>
    let c := s.sought
    require (!c.done) (raise .layoutMismatch 4) fun _ =>
    let b := (s.argv 0 == 1) ^^ c.maskAt
    .ok (State.setCursorRes { s.putbit c.cell.1 c.cell.2 b with cursor := c.advance s.width }
      c.cell.1 c.cell.2 c.maskAt.toNat b.toNat).cancelStream

/-- Z_GET (R446). -/
def execZGet (s : State) : Outcome :=
  s.finish <| require s.cursor.valid (raise .layoutMismatch 4) fun _ =>
    let c := s.sought
    require (!c.done) (raise .layoutMismatch 4) fun _ =>
    require (Plane.get s.dplane c.cell.1 c.cell.2) (raise .layoutMismatch 1) fun _ =>
    .ok (State.setCursorRes { s with cursor := c.advance s.width } c.cell.1 c.cell.2 c.maskAt.toNat
      (Plane.get s.vplane c.cell.1 c.cell.2 ^^ c.maskAt).toNat)

end Sys2Proof.Machine
end

