-- ==== Sys2Proof/Machine/Draw.lean ====
section
/-! DEFINITION. Drawing and reading a whole symbol, automatic mask selection, and the meanings of L_DRAW and L_READ
(47_mask_zigzag.md R429 to R434). -/

namespace Sys2Proof.Machine

/-- The bits of a byte, the most significant first (R432). -/
def byteBits (b : Byte) : List Bool := (List.range 8).map fun k => b.getLsbD (7 - k)

/-- The byte whose bits, the most significant first, are these (R433). -/
def bitsByte (l : List Bool) : Byte := BitVec.ofNat 8 (l.foldl (fun v b => 2 * v + b.toNat) 0)

/-- `place`: each cell in turn takes the next data bit, 0 after the last, XORed with its mask bit (R429). -/
def Canvas.place (m : Nat) : List (Nat × Nat) → List Bool → Canvas → Canvas
  | [], _, c => c
  | p :: cells, bits, c => Canvas.place m cells bits.tail (c.put p.1 p.2 (bits.headD false ^^ maskbit m p.1 p.2))

/-- The symbol of version `v` with the data placed on the template (R429, R431). -/
def symbolCanvas (v ecc m : Nat) (test : Bool) (data : List Byte) : Canvas :=
  Canvas.place m (zz v) (data.flatMap byteBits) (template v ecc m test)

/-- The trial score `p_m` (R430). -/
def trialScore (v ecc : Nat) (data : List Byte) (m : Nat) : Nat :=
  penalty (symbolSize v) (symbolSize v) (symbolCanvas v ecc m true data).dark

/-- The first `(m, score)` of least score (R430). -/
def leastScore (score : Nat → Nat) : List Nat → Nat × Nat → Nat × Nat
  | [], best => best
  | m :: l, best =>
    let p := score m
    leastScore score l (if p < best.2 then (m, p) else best)

/-- Automatic mask selection: `(m, score)` (R430). -/
def autoMask (v ecc : Nat) (data : List Byte) : Nat × Nat :=
  leastScore (trialScore v ecc data) [1, 2, 3, 4, 5, 6, 7] (0, trialScore v ecc data 0)

/-- The mask drawn with and its score, for a mask operand 0..8 (R431). -/
def chooseMask (v ecc maskArg : Nat) (data : List Byte) : Nat × Nat :=
  if maskArg = 8 then autoMask v ecc data else (maskArg, 0)

/-- L_DRAW (R431). -/
def execLDraw (s : State) : Outcome :=
  s.finish <| s.requireArg 0 1 Config.versionMax .invalidVersion fun _ => s.requireArg 1 0 3 .invalidEcc fun _ =>
    s.requireArg 2 0 8 .invalidMask fun _ => s.requireRange 3 (s.argv 4) fun _ =>
    require (decide (8 * s.argv 4 ≤ capacity (s.argv 0))) (raise .layoutMismatch 2) fun _ =>
    let data := s.memRead (s.argv 3) (s.argv 4)
    let ms := chooseMask (s.argv 0) (s.argv 1) (s.argv 2) data
    let c := symbolCanvas (s.argv 0) (s.argv 1) ms.1 false data
    .ok (((s.setMatrix (symbolSize (s.argv 0)) (symbolSize (s.argv 0)) c.d c.v
      (rmap (s.argv 0))).cancelStream.invalidateCursor.setResNat 0 ms.1).setResNat 1 ms.2)

/-- The unmasked value of a cell (R433). -/
def State.unmasked (s : State) (m : Nat) (c : Nat × Nat) : Bool := Plane.get s.vplane c.1 c.2 ^^ maskbit m c.1 c.2

/-- `n` bytes from a list of bits, the most significant bit of each first (R433). -/
def packBytes : Nat → List Bool → List Byte
  | 0, _ => []
  | n + 1, bits => bitsByte (bits.take 8) :: packBytes n (bits.drop 8)

/-- `readbytes(v, m, n)` (R433). -/
def State.readBytes (s : State) (v m n : Nat) : List Byte :=
  packBytes n (((zz v).take (8 * n)).map (s.unmasked m))

/-- L_READ (R434). -/
def execLRead (s : State) : Outcome :=
  s.finish <| s.requireArg 0 1 Config.versionMax .invalidVersion fun _ => s.requireArg 1 0 7 .invalidMask fun _ =>
    require (decide (s.height = symbolSize (s.argv 0) ∧ s.width = symbolSize (s.argv 0))) (raise .layoutMismatch 3) fun _ =>
    s.requireRange 2 (s.argv 3) fun _ =>
    require (decide (8 * s.argv 3 ≤ capacity (s.argv 0))) (raise .layoutMismatch 2) fun _ =>
    require (((zz (s.argv 0)).take (8 * s.argv 3)).all fun c => Plane.get s.dplane c.1 c.2) (raise .layoutMismatch 1) fun _ =>
    .ok ((s.memWrite (s.argv 2) (s.readBytes (s.argv 0) (s.argv 1) (s.argv 3))).setResNat 0 (s.argv 3))

end Sys2Proof.Machine
end

