-- ==== Sys2Proof/Machine/Gf.lean ====
section
/-! DEFINITION. GF(256) (43_gf.md): the two tables, the field functions, and the meanings of the GF_* commands. -/

namespace Sys2Proof.Machine

/-- The EXP table of R260, a table row of the spec in one number: the first column is the highest byte. -/
def gfExpRows : List Nat :=
  [0x01020408102040801D3A74E8CD871326,
   0x4C982D5AB475EAC98F03060C183060C0,
   0x9D274E9C254A94356AD4B577EEC19F23,
   0x468C050A142850A05DBA69D2B96FDEA1,
   0x5FBE61C2992F5EBC65CA890F1E3C78F0,
   0xFDE7D3BB6BD6B17FFEE1DFA35BB671E2,
   0xD9AF4386112244880D1A3468D0BD67CE,
   0x811F3E7CF8EDC7933B76ECC5973366CC,
   0x85172E5CB86DDAA94F9E214284152A54,
   0xA84D9A2952A455AA49923972E4D5B773,
   0xE6D1BF63C6913F7EFCE5D7B37BF6F1FF,
   0xE3DBAB4B963162C495376EDCA557AE41,
   0x82193264C88D070E1C3870E0DDA753A6,
   0x51A259B279F2F9EFC39B2B56AC458A09,
   0x122448903D7AF4F5F7F3FBEBCB8B0B16,
   0x2C58B07DFAE9CF831B366CD8AD478E01]

/-- The LOG table of R261, laid out like `gfExpRows`; the absent LOG[0] holds 0 and is never used by a defined result. -/
def gfLogRows : List Nat :=
  [0x0000011902321AC603DF33EE1B68C74B,
   0x0464E00E348DEF811CC169F8C8084C71,
   0x058A652FE1240F2135938EDAF0128245,
   0x1DB5C27D6A27F9B9C99A09784DE472A6,
   0x06BF8B6266DD30FDE29825B310912288,
   0x36D094CE8F96DBBDF1D2135C83384640,
   0x1E42B6A3C3487E6E6B3A2854FA85BA3D,
   0xCA5E9B9F0A15792B4ED4E5AC73F3A757,
   0x0770C0F78C80630D674ADEED31C5FE18,
   0xE3A5997726B8B47C114492D92320892E,
   0x373FD15B95BCCFCD908797B2DCFCBE61,
   0xF256D3AB142A5D9E843C3953476D41A2,
   0x1F2D43D8B77BA476C41749EC7F0C6FF6,
   0x6CA13B52299D55AAFB6086B1BBCC3E5A,
   0xCB595FB09CA9A0510BF516EB7A752CD7,
   0x4FAED5E9E6E7ADE874D6F4EAA85058AF]

/-- Entry `i` of a table of 16 rows of 16 bytes. -/
def gfEntry (rows : List Nat) (i : Nat) : Nat := (rows.getD (i / 16) 0 >>> (8 * (15 - i % 16))) % 256

/-- `EXP[i]`, `i` in 0..255 (R260). -/
def gfExpAt (i : Nat) : Byte := BitVec.ofNat 8 (gfEntry gfExpRows i)

/-- `LOG[a]`, `a` in 1..255, a value in 0..254 (R261). -/
def gfLogAt (a : Byte) : Nat := gfEntry gfLogRows a.toNat

/-- `gadd(a, b) = a ⊕ b` (R262). -/
def gadd (a b : Byte) : Byte := a ^^^ b

/-- `gmul(a, b)` (R263). -/
def gmul (a b : Byte) : Byte :=
  if a = 0#8 ∨ b = 0#8 then 0#8 else gfExpAt ((gfLogAt a + gfLogAt b) % 255)

/-- `ginv(a)` for `a ≠ 0` (R264). At 0, where the rule raises DomainError, GF_INV checks first and no other command asks
for it from a state a run reaches (log entry 14). -/
def ginv (a : Byte) : Byte := gfExpAt ((255 - gfLogAt a) % 255)

/-- `gpow(a, e)` (R265); the product `LOG[a]·e` does not wrap. -/
def gpow (a : Byte) (e : Nat) : Byte :=
  if a = 0#8 then (if e = 0 then 1#8 else 0#8) else gfExpAt ((gfLogAt a * e) % 255)

/-- `gexp(i) = EXP[i mod 255]` (R266). -/
def gexp (i : Nat) : Byte := gfExpAt (i % 255)

/-- `glog(a) = LOG[a]` for `a ≠ 0` (R266); GF_LOG checks for 0 first. -/
def glog (a : Byte) : Nat := gfLogAt a

/-- GF_ADD (R267). -/
def execGfAdd (s : State) : Outcome :=
  s.finish <| s.requireByte 0 fun _ => s.requireByte 1 fun _ =>
    .ok (s.setResNat 0 (gadd (s.argByte 0) (s.argByte 1)).toNat)

/-- GF_MUL (R268). -/
def execGfMul (s : State) : Outcome :=
  s.finish <| s.requireByte 0 fun _ => s.requireByte 1 fun _ =>
    .ok (s.setResNat 0 (gmul (s.argByte 0) (s.argByte 1)).toNat)

/-- GF_INV (R269). -/
def execGfInv (s : State) : Outcome :=
  s.finish <| s.requireByte 0 fun _ => require (s.argv 0 != 0) (raise .domainError 0) fun _ =>
    .ok (s.setResNat 0 (ginv (s.argByte 0)).toNat)

/-- GF_POW (R270). -/
def execGfPow (s : State) : Outcome :=
  s.finish <| s.requireByte 0 fun _ =>
    .ok (s.setResNat 0 (gpow (s.argByte 0) (s.argv 1)).toNat)

/-- GF_EXP (R271). -/
def execGfExp (s : State) : Outcome :=
  s.finish <| .ok (s.setResNat 0 (gexp (s.argv 0)).toNat)

/-- GF_LOG (R272). -/
def execGfLog (s : State) : Outcome :=
  s.finish <| s.requireByte 0 fun _ => require (s.argv 0 != 0) (raise .domainError 0) fun _ =>
    .ok (s.setResNat 0 (glog (s.argByte 0)))

end Sys2Proof.Machine
end

