-- ==== Sys2Proof/Machine/Poly.lean ====
section
/-! DEFINITION. Polynomials over GF(256) (00_scope.md R14, 44_poly.md): the arithmetic and the meanings of the P_* commands.
A loop of the spec is a recursion on a count that bounds its iterations (log entry 15). -/

namespace Sys2Proof.Machine

/-- `norm(l)`: leading zero bytes stripped while the length exceeds 1 (R14). -/
def polyNorm : Poly → Poly
  | [] => []
  | [c] => [c]
  | c :: d :: l => if c = 0#8 then polyNorm (d :: l) else c :: d :: l

/-- `deg(p) = len(p) - 1` (R14, `deg([0]) = 0`). -/
def polyDeg (p : Poly) : Nat := p.length - 1

/-- `iszero(p)` iff `p = [0]` (R14). -/
def polyIsZero (p : Poly) : Bool := p == [0#8]

/-- `lead(p)` (R14). -/
def polyLead (p : Poly) : Byte := p.headD 0#8

/-- `coef(p, d)`: the coefficient of `x^d`, 0 above the degree (R14). -/
def polyCoef (p : Poly) (d : Nat) : Byte := p.reverse.getD d 0#8

/-- `n` zero bytes. -/
def zeroBytes (n : Nat) : List Byte := List.replicate n 0#8

/-- A polynomial is normal when it is not empty and its leading byte is not 0 or it has one byte (R14). -/
def polyNormal (p : Poly) : Bool := decide (p.length = 1) || (p != [] && polyLead p != 0#8)

/-- `pmono(d, c)` (R292). -/
def pmono (d : Nat) (c : Byte) : Poly := if c = 0#8 then [0#8] else c :: zeroBytes d

/-- `padd(a, b)` (R293). -/
def padd (a b : Poly) : Poly :=
  let len := max a.length b.length
  polyNorm (List.zipWith gadd (zeroBytes (len - a.length) ++ a) (zeroBytes (len - b.length) ++ b))

/-- The coefficients of the product of two byte lists, without normalisation: `r[i+j] ^= a[i]·b[j]` (R294). -/
def polyRawMul : Poly → Poly → List Byte
  | [], b => zeroBytes (b.length - 1)
  | c :: a, b => List.zipWith gadd (b.map (gmul c) ++ zeroBytes a.length) (0#8 :: polyRawMul a b)

/-- `pmul(a, b)`, with PolyOverflow(0) above 256 coefficients (R294). -/
def pmul (a b : Poly) : Except Raise Poly :=
  if polyIsZero a || polyIsZero b then .ok [0#8]
  else if a.length + b.length - 1 ≤ Config.polyLenMax then .ok (polyRawMul a b)
  else .error (raise .polyOverflow 0)

/-- `pscale(a, s)` (R295). -/
def pscale (a : Poly) (c : Byte) : Poly := if c = 0#8 then [0#8] else polyNorm (a.map fun x => gmul x c)

/-- `[gmul(a[j], c) for each j] ++ (d zero bytes)`: the product by `c·x^d` of R296 where it is not 0 and fits. -/
def polyShift (a : Poly) (d : Nat) (c : Byte) : Poly := (a.map fun x => gmul x c) ++ zeroBytes d

/-- `pmulmono(a, d, c)` (R296). -/
def pmulmono (a : Poly) (d : Nat) (c : Byte) : Except Raise Poly :=
  if c = 0#8 || polyIsZero a then .ok [0#8]
  else if a.length + d ≤ Config.polyLenMax then .ok (polyShift a d c)
  else .error (raise .polyOverflow 0)

/-- The division loop of R297 from quotient `q` and remainder `r`. Each iteration shortens the remainder, so `len(a)`
iterations are enough; the product inside cannot overflow (R297). -/
def divLoop : Nat → Poly → Byte → Poly → Poly → Poly × Poly
  | 0, _, _, q, r => (q, r)
  | n + 1, b, inv, q, r =>
    if !polyIsZero r && decide (polyDeg b ≤ polyDeg r) then
      let dd := polyDeg r - polyDeg b
      let sc := gmul (polyLead r) inv
      divLoop n b inv (padd q (pmono dd sc)) (padd r (polyShift b dd sc))
    else (q, r)

/-- `pdivmod(a, b)` (R297). -/
def pdivmod (a b : Poly) : Except Raise (Poly × Poly) :=
  if polyIsZero b then .error (raise .divideByZero 0)
  else .ok (divLoop a.length b (ginv (polyLead b)) [0#8] a)

/-- `peval(p, a)`: Horner's rule (R298). -/
def peval (p : Poly) (a : Byte) : Byte := p.foldl (fun v c => gadd (gmul v a) c) 0#8

/-- `pgen(k)`: the product of `x + α^i`, `i < k` (R299). -/
def pgen : Nat → Poly
  | 0 => [1#8]
  | k + 1 => polyRawMul (pgen k) [1#8, gexp k]

/-- The loop of R300 from `(rl, r)` and `(tl, t)`, with the steps taken so far. Each step makes `deg(r)` smaller or `r` zero,
so `len(b) + 1` rounds are enough. -/
def euclidLoop (bound : Nat) : Nat → Poly → Poly → Poly → Poly → Nat → Except Raise (Poly × Poly × Nat)
  | 0, _, r, _, t, steps => .ok (t, r, steps)
  | n + 1, rl, r, tl, t, steps =>
    if bound ≤ 2 * polyDeg r then
      if polyIsZero r then .error (raise .rsUndecodable 1)
      else
        match pdivmod rl r with
        | .error e => .error e
        | .ok (q, rem) =>
          match pmul q t with
          | .error e => .error e
          | .ok qt => euclidLoop bound n r rem t (padd qt tl) (steps + 1)
    else .ok (t, r, steps)

/-- `euclid(a, b, R)` for operands already in order, `deg(a) ≥ deg(b)` (R300). -/
def euclidOrdered (a b : Poly) (bound : Nat) : Except Raise (Poly × Poly × Nat) :=
  match euclidLoop bound (b.length + 2) a b [0#8] [1#8] 0 with
  | .error e => .error e
  | .ok (t, r, steps) =>
    let c := polyCoef t 0
    if c = 0#8 then .error (raise .rsUndecodable 2)
    else .ok (pscale t (ginv c), pscale r (ginv c), steps)

/-- `euclid(a, b, R)`: Λ, Ω and the number of division steps (R300). -/
def euclid (a b : Poly) (bound : Nat) : Except Raise (Poly × Poly × Nat) :=
  if polyDeg a < polyDeg b then euclidOrdered b a bound else euclidOrdered a b bound

/-- `P[RD] <- p; RES[0] <- len(p)` (44_poly.md). -/
def State.putPoly (s : State) (rd : PReg) (p : Poly) : State := (s.setPoly rd p).setResNat 0 p.length

/-- P_LOAD (R290). -/
def execPLoad (rd : PReg) (s : State) : Outcome :=
  s.finish <| s.requireArg 1 1 256 .operandRange fun _ => s.requireRange 0 (s.argv 1) fun _ =>
    .ok (s.putPoly rd (polyNorm (s.memRead (s.argv 0) (s.argv 1))))

/-- P_STORE (R291). -/
def execPStore (rs1 : PReg) (s : State) : Outcome :=
  s.finish <| s.requireRange 0 (s.getPoly rs1).length fun _ =>
    .ok ((s.memWrite (s.argv 0) (s.getPoly rs1)).setResNat 0 (s.getPoly rs1).length)

/-- P_MONO (R292). -/
def execPMono (rd : PReg) (s : State) : Outcome :=
  s.finish <| s.requireByte 0 fun _ => s.requireByte 1 fun _ =>
    .ok (s.putPoly rd (pmono (s.argv 0) (s.argByte 1)))

/-- P_ADD (R293). -/
def execPAdd (rd rs1 rs2 : PReg) (s : State) : Outcome :=
  s.finish <| .ok (s.putPoly rd (padd (s.getPoly rs1) (s.getPoly rs2)))

/-- P_MUL (R294). -/
def execPMul (rd rs1 rs2 : PReg) (s : State) : Outcome :=
  s.finish <| andThen (pmul (s.getPoly rs1) (s.getPoly rs2)) fun p => .ok (s.putPoly rd p)

/-- P_SCALE (R295). -/
def execPScale (rd rs1 : PReg) (s : State) : Outcome :=
  s.finish <| s.requireByte 0 fun _ => .ok (s.putPoly rd (pscale (s.getPoly rs1) (s.argByte 0)))

/-- P_MULMONO (R296). -/
def execPMulmono (rd rs1 : PReg) (s : State) : Outcome :=
  s.finish <| s.requireByte 0 fun _ => s.requireByte 1 fun _ =>
    andThen (pmulmono (s.getPoly rs1) (s.argv 0) (s.argByte 1)) fun p => .ok (s.putPoly rd p)

/-- P_REM (R297). -/
def execPRem (rd rs1 rs2 : PReg) (s : State) : Outcome :=
  s.finish <| andThen (pdivmod (s.getPoly rs1) (s.getPoly rs2)) fun qr => .ok (s.putPoly rd qr.2)

/-- P_EVAL (R298). -/
def execPEval (rs1 : PReg) (s : State) : Outcome :=
  s.finish <| s.requireByte 0 fun _ => .ok (s.setResNat 0 (peval (s.getPoly rs1) (s.argByte 0)).toNat)

/-- P_GEN (R299). -/
def execPGen (rd : PReg) (s : State) : Outcome :=
  s.finish <| s.requireByte 0 fun _ =>
    .ok ((s.setPoly rd (pgen (s.argv 0))).setResNat 0 (s.argv 0 + 1))

/-- P_EUCLID (R300); the sources are read before RD and RD2 are written. -/
def execPEuclid (rd rd2 rs1 rs2 : PReg) (s : State) : Outcome :=
  s.finish <| andThen (euclid (s.getPoly rs1) (s.getPoly rs2) (s.argv 0)) fun r =>
    .ok ((((s.setPoly rd r.1).setPoly rd2 r.2.1).setResNat 0 (polyDeg r.1)).setResNat 1 r.2.2)

end Sys2Proof.Machine
end

