-- ==== Sys2Proof/Machine/Render.lean ====
section
/-! DEFINITION. The renderers and the output stream (42_render.md): the two byte sequences, the byte a stream returns next, and
the meanings of R_RAW and R_GIF. -/

namespace Sys2Proof.Machine

/-- Whether pixel `k` of the image scaled by `scale` is dark, pixels row by row from the top (R231). -/
def State.pixelDark (s : State) (scale k : Nat) : Bool :=
  s.dark (k % (s.width * scale) / scale) (k / (s.width * scale) / scale)

/-- Byte `pos` of the raster sequence (R233). -/
def State.rawByte (s : State) (scale bpp pos : Nat) : Byte :=
  if pos % bpp = 3 then 255#8 else if s.pixelDark scale (pos / bpp) then 0#8 else 255#8

/-- The low and the high byte of a 16-bit field (R235). -/
def lowByte (v : Nat) : Byte := BitVec.ofNat 8 (v % 256)
def highByte (v : Nat) : Byte := BitVec.ofNat 8 (v / 256)

/-- `len` of R234: the whole GIF sequence of `p` pixels. -/
def gifLength (p : Nat) : Nat := 412 + p + 2 * ((p + 125) / 126)

/-- The 13 bytes of header and logical screen (R235). -/
def gifHeader (wp hp : Nat) : List Byte :=
  [0x47#8, 0x49#8, 0x46#8, 0x38#8, 0x37#8, 0x61#8, lowByte wp, highByte wp, lowByte hp, highByte hp, 0xF6#8, 0#8, 0#8]

/-- The image descriptor and the LZW minimum code size (R235). -/
def gifDescriptor (wp hp : Nat) : List Byte :=
  [0x2C#8, 0#8, 0#8, 0#8, 0#8, lowByte wp, highByte wp, lowByte hp, highByte hp, 0#8, 0x07#8]

/-- The four closing bytes (R235). -/
def gifTrailer : List Byte := [0x01#8, 0x81#8, 0x00#8, 0x3B#8]

/-- Byte `r` of pixel sub-block `c` of `p` pixels: its count, the clear code, then its pixels (R235). -/
def State.gifBlockByte (s : State) (scale p c r : Nat) : Byte :=
  if r = 0 then BitVec.ofNat 8 (min 126 (p - 126 * c) + 1)
  else if r = 1 then 0x80#8
  else BitVec.ofNat 8 (s.pixelDark scale (126 * c + (r - 2))).toNat

/-- Byte `pos` of the GIF sequence (R235), found from its place: 13 header bytes, 384 colour-table bytes, 11 descriptor bytes,
the sub-blocks (each but the last 128 bytes long), and the trailer. -/
def State.gifByte (s : State) (scale pos : Nat) : Byte :=
  let wp := s.width * scale
  let hp := s.height * scale
  let p := wp * hp
  let body := p + 2 * ((p + 125) / 126)
  if pos < 13 then (gifHeader wp hp).getD pos 0#8
  else if pos < 397 then (if pos < 16 then 0xFF#8 else 0x00#8)
  else if pos < 408 then (gifDescriptor wp hp).getD (pos - 397) 0#8
  else if pos < 408 + body then s.gifBlockByte scale p ((pos - 408) / 128) ((pos - 408) % 128)
  else gifTrailer.getD (pos - 408 - body) 0#8

/-- One pixel sub-block as bytes (R235). -/
def State.gifBlock (s : State) (scale p c : Nat) : List Byte :=
  BitVec.ofNat 8 (min 126 (p - 126 * c) + 1) :: 0x80#8 ::
    (List.range (min 126 (p - 126 * c))).map fun i => BitVec.ofNat 8 (s.pixelDark scale (126 * c + i)).toNat

/-- The GIF sequence as R235 writes it. -/
def State.gifBytes (s : State) (scale : Nat) : List Byte :=
  gifHeader (s.width * scale) (s.height * scale)
    ++ ([0xFF#8, 0xFF#8, 0xFF#8] ++ List.replicate 381 0x00#8)
    ++ gifDescriptor (s.width * scale) (s.height * scale)
    ++ (List.range ((s.width * scale * (s.height * scale) + 125) / 126)).flatMap
        (fun c => s.gifBlock scale (s.width * scale * (s.height * scale)) c)
    ++ gifTrailer

/-- `len` of R232. -/
def State.rawLength (s : State) (scale bpp : Nat) : Nat := s.width * scale * (s.height * scale) * bpp

/-- `len` of R234 for the current matrix. -/
def State.gifLen (s : State) (scale : Nat) : Nat := gifLength (s.width * scale * (s.height * scale))

/-- `OUT[SPOS]` for the armed stream, from the current planes (R236). -/
def State.outByte (s : State) : Byte :=
  match s.stream.kind with
  | .none => 0#8
  | .raw => s.rawByte s.stream.scale s.stream.bpp s.stream.pos.toNat
  | .gif => s.gifByte s.stream.scale s.stream.pos.toNat

/-- Arming a raster stream (R230, R232). -/
def State.armRaw (s : State) (scale bpp len : Nat) : State :=
  { s with stream := ⟨.raw, scale, bpp, 0#32, BitVec.ofNat 32 len, false⟩ }

/-- Arming a GIF stream; SBPP is captured for raw only (R230, R234). -/
def State.armGif (s : State) (scale len : Nat) : State :=
  { s with stream := ⟨.gif, scale, s.stream.bpp, 0#32, BitVec.ofNat 32 len, false⟩ }

/-- R_RAW (R232). -/
def execRRaw (s : State) : Outcome :=
  s.finish <| s.requireArg 0 1 Config.scaleMax .operandRange fun _ => s.requireArg 1 3 4 .operandRange fun _ =>
    require (decide (1 ≤ s.height ∧ 1 ≤ s.width)) (raise .layoutMismatch 5) fun _ =>
    require s.drawn (raise .layoutMismatch 1) fun _ =>
    require (decide (s.rawLength (s.argv 0) (s.argv 1) < 2 ^ 32)) (raise .operandRange 0) fun _ =>
    .ok ((s.armRaw (s.argv 0) (s.argv 1) (s.rawLength (s.argv 0) (s.argv 1))).setResNat 0
      (s.rawLength (s.argv 0) (s.argv 1)))

/-- R_GIF (R234). -/
def execRGif (s : State) : Outcome :=
  s.finish <| s.requireArg 0 1 Config.scaleMax .operandRange fun _ =>
    require (decide (1 ≤ s.height ∧ 1 ≤ s.width)) (raise .layoutMismatch 5) fun _ =>
    require s.drawn (raise .layoutMismatch 1) fun _ =>
    require (decide (s.width * s.argv 0 ≤ 65535 ∧ s.height * s.argv 0 ≤ 65535)) (raise .operandRange 0) fun _ =>
    require (decide (s.gifLen (s.argv 0) < 2 ^ 32)) (raise .operandRange 0) fun _ =>
    .ok ((s.armGif (s.argv 0) (s.gifLen (s.argv 0))).setResNat 0 (s.gifLen (s.argv 0)))

/-- One byte of the stream read (R41, R236): SPOS one on, SREMAIN one less, and `SKIND <- none` at the last byte (R237). -/
def Stream.advance (st : Stream) : Stream :=
  { st with
    kind   := if st.remain - 1#32 = 0#32 then .none else st.kind
    pos    := st.pos + 1#32
    remain := st.remain - 1#32 }

end Sys2Proof.Machine
end

