-- ==== Sys2Proof/Machine/Rs.lean ====
section
/-! DEFINITION. The Reed–Solomon code (45_rs.md): encoding, syndromes, decoding, and the meanings of the RS_* commands. -/

namespace Sys2Proof.Machine

/-- `rs_encode(d, k)`: exactly `k` parity bytes, highest degree first (R334). -/
def rsEncode (d : List Byte) (k : Nat) : Except Raise (List Byte) :=
  if k = 0 then .ok []
  else
    -- `norm(d ++ k zero bytes)`
    match pdivmod (polyNorm (d ++ zeroBytes k)) (pgen k) with
    | .error e => .error e
    | .ok (_, r) => .ok ((List.range k).map fun i => polyCoef r (k - 1 - i))

/-- The syndromes `S_0 .. S_(k-1)` of a codeword (R332). -/
def rsSyndromes (c : List Byte) (k : Nat) : List Byte := (List.range k).map fun i => peval c (gexp i)

/-- The roots of Λ among the non-zero elements 1..255 (R336). -/
def rsRoots (lam : Poly) : List Byte :=
  ((List.range 255).map fun i => BitVec.ofNat 8 (i + 1)).filter fun b => peval lam b == 0#8

/-- The Forney denominator of the root `b` among `roots`: the product over the other roots of `1 + X_j·b` (R336). -/
def rsDenominator (roots : List Byte) (b : Byte) : Byte :=
  (roots.filter (· != b)).foldl (fun den bj => gmul den (gadd 1#8 (gmul (ginv bj) b))) 1#8

/-- The error magnitude at the root `b` (R336). -/
def rsMagnitude (omega : Poly) (roots : List Byte) (b : Byte) : Byte :=
  gmul (peval omega b) (ginv (rsDenominator roots b))

/-- The byte index of a root in an `n`-byte codeword, if not before byte 0 (R331). -/
def rsPosition (n : Nat) (b : Byte) : Option Nat :=
  if glog (ginv b) + 1 ≤ n then some (n - 1 - glog (ginv b)) else none

/-- `out[pos] <- out[pos] XOR e`. -/
def xorAt (l : List Byte) (pos : Nat) (e : Byte) : List Byte := l.modify pos fun b => gadd b e

/-- `rs_decode(c, k)`: the corrected word, the number of located errors, and whether some syndrome was not 0 (R336). -/
def rsDecode (c : List Byte) (k : Nat) : Except Raise (List Byte × Nat × Nat) :=
  let syn := rsSyndromes c k
  if syn.all (· == 0#8) then .ok (c, 0, 0)
  else
    match euclid (pmono k 1#8) (polyNorm syn.reverse) k with
    | .error e => .error e
    | .ok (lam, omega, _) =>
      let roots := rsRoots lam
      if roots.length ≠ polyDeg lam then .error (raise .rsUndecodable 3)
      else if roots.any fun b => (rsPosition c.length b).isNone then .error (raise .rsUndecodable 4)
      else
        .ok (roots.foldl
          (fun out b => xorAt out ((rsPosition c.length b).getD 0) (rsMagnitude omega roots b)) c, polyDeg lam, 1)

/-- RS_ENCODE (R334). -/
def execRsEncode (s : State) : Outcome :=
  s.finish <| s.requireArg 2 0 Config.kMax .operandRange fun _ =>
    require (decide (s.argv 1 + s.argv 2 ≤ Config.nMax)) (raise .operandRange 1) fun _ =>
    s.requireRange 0 (s.argv 1) fun _ => s.requireRange 3 (s.argv 2) fun _ =>
    andThen (rsEncode (s.memRead (s.argv 0) (s.argv 1)) (s.argv 2)) fun p =>
      .ok ((s.memWrite (s.argv 3) p).setResNat 0 (s.argv 2))

/-- RS_SYNDROME (R335). -/
def execRsSyndrome (s : State) : Outcome :=
  s.finish <| s.requireArg 1 1 Config.nMax .operandRange fun _ => s.requireArg 2 0 Config.kMax .operandRange fun _ =>
    s.requireRange 0 (s.argv 1) fun _ => s.requireRange 3 (s.argv 2) fun _ =>
    .ok ((s.memWrite (s.argv 3) (rsSyndromes (s.memRead (s.argv 0) (s.argv 1)) (s.argv 2))).setResNat 0
      ((rsSyndromes (s.memRead (s.argv 0) (s.argv 1)) (s.argv 2)).any (· != 0#8)).toNat)

/-- RS_DECODE (R337). -/
def execRsDecode (s : State) : Outcome :=
  s.finish <| s.requireArg 1 1 Config.nMax .operandRange fun _ => s.requireArg 2 0 Config.kMax .operandRange fun _ =>
    s.requireRange 0 (s.argv 1) fun _ =>
    andThen (rsDecode (s.memRead (s.argv 0) (s.argv 1)) (s.argv 2)) fun r =>
      .ok (((s.memWrite (s.argv 0) r.1).setResNat 0 r.2.1).setResNat 1 r.2.2)

end Sys2Proof.Machine
end

