-- ==== Sys2Proof/Machine/System.lean ====
section
/-! DEFINITION. The system commands (40_system.md): NOP and S_STREAM_CANCEL. -/

namespace Sys2Proof.Machine

/-- NOP (R160): nothing but the success end. -/
def execNop (s : State) : Outcome := s.finish (.ok s)

/-- S_STREAM_CANCEL (R161). -/
def execSStreamCancel (s : State) : Outcome := s.finish (.ok s.cancelStream)

end Sys2Proof.Machine
end

