-- ==== Sys2Proof/Machine/Dispatch.lean ====
section
/-! DEFINITION. The meaning of each command: one arm per constructor of Instr, in the order of spec/opcode_table.json. -/

namespace Sys2Proof.Machine

def exec (i : Instr) (s : State) : Host.Outcome State Fault Refusal :=
  match i with
  | .nop => Sys2Proof.Machine.execNop s
  | .sStreamCancel => Sys2Proof.Machine.execSStreamCancel s
  | .gfAdd => Sys2Proof.Machine.execGfAdd s
  | .gfMul => Sys2Proof.Machine.execGfMul s
  | .gfInv => Sys2Proof.Machine.execGfInv s
  | .gfPow => Sys2Proof.Machine.execGfPow s
  | .gfExp => Sys2Proof.Machine.execGfExp s
  | .gfLog => Sys2Proof.Machine.execGfLog s
  | .pLoad rd => Sys2Proof.Machine.execPLoad rd s
  | .pStore rs1 => Sys2Proof.Machine.execPStore rs1 s
  | .pMono rd => Sys2Proof.Machine.execPMono rd s
  | .pAdd rd rs1 rs2 => Sys2Proof.Machine.execPAdd rd rs1 rs2 s
  | .pMul rd rs1 rs2 => Sys2Proof.Machine.execPMul rd rs1 rs2 s
  | .pScale rd rs1 => Sys2Proof.Machine.execPScale rd rs1 s
  | .pMulmono rd rs1 => Sys2Proof.Machine.execPMulmono rd rs1 s
  | .pRem rd rs1 rs2 => Sys2Proof.Machine.execPRem rd rs1 rs2 s
  | .pEval rs1 => Sys2Proof.Machine.execPEval rs1 s
  | .pGen rd => Sys2Proof.Machine.execPGen rd s
  | .pEuclid rd rd2 rs1 rs2 => Sys2Proof.Machine.execPEuclid rd rd2 rs1 rs2 s
  | .rsEncode => Sys2Proof.Machine.execRsEncode s
  | .rsSyndrome => Sys2Proof.Machine.execRsSyndrome s
  | .rsDecode => Sys2Proof.Machine.execRsDecode s
  | .mNew => Sys2Proof.Machine.execMNew s
  | .mSet => Sys2Proof.Machine.execMSet s
  | .mGet => Sys2Proof.Machine.execMGet s
  | .mRect => Sys2Proof.Machine.execMRect s
  | .mNegate => Sys2Proof.Machine.execMNegate s
  | .mTranspose => Sys2Proof.Machine.execMTranspose s
  | .mBorder => Sys2Proof.Machine.execMBorder s
  | .mPopcount => Sys2Proof.Machine.execMPopcount s
  | .mCountPattern => Sys2Proof.Machine.execMCountPattern s
  | .mCountBoxes => Sys2Proof.Machine.execMCountBoxes s
  | .mAssertDrawn => Sys2Proof.Machine.execMAssertDrawn s
  | .mPenalty => Sys2Proof.Machine.execMPenalty s
  | .rRaw => Sys2Proof.Machine.execRRaw s
  | .rGif => Sys2Proof.Machine.execRGif s
  | .bFormat => Sys2Proof.Machine.execBFormat s
  | .bVersion => Sys2Proof.Machine.execBVersion s
  | .bFormatDecode => Sys2Proof.Machine.execBFormatDecode s
  | .bVersionDecode => Sys2Proof.Machine.execBVersionDecode s
  | .lTemplate => Sys2Proof.Machine.execLTemplate s
  | .lReserve => Sys2Proof.Machine.execLReserve s
  | .lFormatRead => Sys2Proof.Machine.execLFormatRead s
  | .lVersionRead => Sys2Proof.Machine.execLVersionRead s
  | .lDraw => Sys2Proof.Machine.execLDraw s
  | .lRead => Sys2Proof.Machine.execLRead s
  | .zStart => Sys2Proof.Machine.execZStart s
  | .zNext => Sys2Proof.Machine.execZNext s
  | .zPut => Sys2Proof.Machine.execZPut s
  | .zGet => Sys2Proof.Machine.execZGet s
  | .lMaskApply => Sys2Proof.Machine.execLMaskApply s
  | .lMaskBit => Sys2Proof.Machine.execLMaskBit s

end Sys2Proof.Machine
end

