-- ==== Sys2Proof/WellFormed.lean ====
section
/-! DEFINITION. Which terms of Instr are commands the block performs. -/

namespace Sys2Proof

/-- Every term is well formed but a P_EUCLID whose two destinations are one register (30_encoding.md R123, R129: the only
restriction on register operands; 44_poly.md R300). -/
def Instr.wellFormed : Instr → Bool
  | .pEuclid rd rd2 _ _ => rd != rd2
  | .nop | .sStreamCancel | .gfAdd | .gfMul | .gfInv | .gfPow | .gfExp | .gfLog => true
  | .pLoad _ | .pStore _ | .pMono _ | .pAdd _ _ _ | .pMul _ _ _ | .pScale _ _ | .pMulmono _ _ => true
  | .pRem _ _ _ | .pEval _ | .pGen _ | .rsEncode | .rsSyndrome | .rsDecode => true
  | .mNew | .mSet | .mGet | .mRect | .mNegate | .mTranspose | .mBorder | .mPopcount => true
  | .mCountPattern | .mCountBoxes | .mAssertDrawn | .mPenalty | .rRaw | .rGif => true
  | .bFormat | .bVersion | .bFormatDecode | .bVersionDecode => true
  | .lTemplate | .lReserve | .lFormatRead | .lVersionRead | .lDraw | .lRead => true
  | .zStart | .zNext | .zPut | .zGet | .lMaskApply | .lMaskBit => true

end Sys2Proof
end

