-- ==== Sys2Proof/Decode.lean ====
section
/-! DEFINITION. The command word's fields (30_encoding.md R121), the decoder (R122, R123), total on every word and rejecting
by name, and the encoder (R135). -/

namespace Sys2Proof

/-- Why a command word does not decode: the ERRINFO of IllegalCommand (R123, 60_exceptions.md R471). -/
inductive DecodeError where
  /-- IllegalCommand(0): no command has this opcode. -/
  | noOpcode
  /-- IllegalCommand(1): a reserved bit or an unused register field is not 0. -/
  | reservedBits
  /-- IllegalCommand(2): P_EUCLID with `RD = RD2`. -/
  | sameDestination
  deriving DecidableEq, Repr

/-- `OPC = word[7:0]` (R121). -/
def opcOf (w : Word) : Nat := w.toNat % 256
/-- The 3-bit register number at bits `lo+2 .. lo` of a word (R121). -/
def regAt (lo : Nat) (w : Word) : PReg := ⟨(w.toNat >>> lo) % 8, Nat.mod_lt _ (by decide)⟩
/-- `RD = word[10:8]` (R121). -/
def rdOf (w : Word) : PReg := regAt 8 w
/-- `RS1 = word[14:12]` (R121). -/
def rs1Of (w : Word) : PReg := regAt 12 w
/-- `RS2 = word[18:16]` (R121). -/
def rs2Of (w : Word) : PReg := regAt 16 w
/-- `RD2 = word[22:20]` (R121). -/
def rd2Of (w : Word) : PReg := regAt 20 w

/-- The six masks of R134: the bits a word must share with its row's `match`. -/
def maskNone : Word := 0xFFFFFFFF#32
def maskRd : Word := 0xFFFFF8FF#32
def maskRs1 : Word := 0xFFFF8FFF#32
def maskRdRs1 : Word := 0xFFFF88FF#32
def maskRdRs1Rs2 : Word := 0xFFF888FF#32
def maskRdRd2Rs1Rs2 : Word := 0xFF8888FF#32

/-- The row of R133 whose OPC is the word's, read with the word's register fields: its mask and its command. -/
def rowOf (w : Word) : Option (Word × Instr) :=
  match opcOf w with
  | 0x00 => some (maskNone, .nop)
  | 0x01 => some (maskNone, .sStreamCancel)
  | 0x10 => some (maskNone, .gfAdd)
  | 0x11 => some (maskNone, .gfMul)
  | 0x12 => some (maskNone, .gfInv)
  | 0x13 => some (maskNone, .gfPow)
  | 0x14 => some (maskNone, .gfExp)
  | 0x15 => some (maskNone, .gfLog)
  | 0x20 => some (maskRd, .pLoad (rdOf w))
  | 0x21 => some (maskRs1, .pStore (rs1Of w))
  | 0x22 => some (maskRd, .pMono (rdOf w))
  | 0x23 => some (maskRdRs1Rs2, .pAdd (rdOf w) (rs1Of w) (rs2Of w))
  | 0x24 => some (maskRdRs1Rs2, .pMul (rdOf w) (rs1Of w) (rs2Of w))
  | 0x25 => some (maskRdRs1, .pScale (rdOf w) (rs1Of w))
  | 0x26 => some (maskRdRs1, .pMulmono (rdOf w) (rs1Of w))
  | 0x27 => some (maskRdRs1Rs2, .pRem (rdOf w) (rs1Of w) (rs2Of w))
  | 0x28 => some (maskRs1, .pEval (rs1Of w))
  | 0x29 => some (maskRd, .pGen (rdOf w))
  | 0x2A => some (maskRdRd2Rs1Rs2, .pEuclid (rdOf w) (rd2Of w) (rs1Of w) (rs2Of w))
  | 0x30 => some (maskNone, .rsEncode)
  | 0x31 => some (maskNone, .rsSyndrome)
  | 0x32 => some (maskNone, .rsDecode)
  | 0x40 => some (maskNone, .mNew)
  | 0x41 => some (maskNone, .mSet)
  | 0x42 => some (maskNone, .mGet)
  | 0x43 => some (maskNone, .mRect)
  | 0x44 => some (maskNone, .mNegate)
  | 0x45 => some (maskNone, .mTranspose)
  | 0x46 => some (maskNone, .mBorder)
  | 0x47 => some (maskNone, .mPopcount)
  | 0x48 => some (maskNone, .mCountPattern)
  | 0x49 => some (maskNone, .mCountBoxes)
  | 0x4A => some (maskNone, .mAssertDrawn)
  | 0x4B => some (maskNone, .mPenalty)
  | 0x50 => some (maskNone, .rRaw)
  | 0x51 => some (maskNone, .rGif)
  | 0x60 => some (maskNone, .bFormat)
  | 0x61 => some (maskNone, .bVersion)
  | 0x62 => some (maskNone, .bFormatDecode)
  | 0x63 => some (maskNone, .bVersionDecode)
  | 0x64 => some (maskNone, .lTemplate)
  | 0x65 => some (maskNone, .lReserve)
  | 0x66 => some (maskNone, .lFormatRead)
  | 0x67 => some (maskNone, .lVersionRead)
  | 0x70 => some (maskNone, .lDraw)
  | 0x71 => some (maskNone, .lRead)
  | 0x72 => some (maskNone, .zStart)
  | 0x73 => some (maskNone, .zNext)
  | 0x74 => some (maskNone, .zPut)
  | 0x75 => some (maskNone, .zGet)
  | 0x76 => some (maskNone, .lMaskApply)
  | 0x77 => some (maskNone, .lMaskBit)
  | _ => none

/-- Decoding a command word (R123): IllegalCommand 0, then 1, then 2. A row's `match` is its OPC alone (R134). -/
def decode (w : Word) : Except DecodeError Instr :=
  match rowOf w with
  | none => .error .noOpcode
  | some (mask, i) =>
    if (w &&& mask).toNat ≠ opcOf w then .error .reservedBits
    else if i.wellFormed then .ok i
    else .error .sameDestination

/-- `OPC | RD<<8 | RS1<<12 | RS2<<16 | RD2<<20` (R135). -/
def assemble (opc rd rs1 rs2 rd2 : Nat) : Word :=
  BitVec.ofNat 32 (opc + rd <<< 8 + rs1 <<< 12 + rs2 <<< 16 + rd2 <<< 20)

/-- The command word of a command (R133, R135): each unused field 0. -/
def encode : Instr → Word
  | .nop => assemble 0x00 0 0 0 0
  | .sStreamCancel => assemble 0x01 0 0 0 0
  | .gfAdd => assemble 0x10 0 0 0 0
  | .gfMul => assemble 0x11 0 0 0 0
  | .gfInv => assemble 0x12 0 0 0 0
  | .gfPow => assemble 0x13 0 0 0 0
  | .gfExp => assemble 0x14 0 0 0 0
  | .gfLog => assemble 0x15 0 0 0 0
  | .pLoad rd => assemble 0x20 rd 0 0 0
  | .pStore rs1 => assemble 0x21 0 rs1 0 0
  | .pMono rd => assemble 0x22 rd 0 0 0
  | .pAdd rd rs1 rs2 => assemble 0x23 rd rs1 rs2 0
  | .pMul rd rs1 rs2 => assemble 0x24 rd rs1 rs2 0
  | .pScale rd rs1 => assemble 0x25 rd rs1 0 0
  | .pMulmono rd rs1 => assemble 0x26 rd rs1 0 0
  | .pRem rd rs1 rs2 => assemble 0x27 rd rs1 rs2 0
  | .pEval rs1 => assemble 0x28 0 rs1 0 0
  | .pGen rd => assemble 0x29 rd 0 0 0
  | .pEuclid rd rd2 rs1 rs2 => assemble 0x2A rd rs1 rs2 rd2
  | .rsEncode => assemble 0x30 0 0 0 0
  | .rsSyndrome => assemble 0x31 0 0 0 0
  | .rsDecode => assemble 0x32 0 0 0 0
  | .mNew => assemble 0x40 0 0 0 0
  | .mSet => assemble 0x41 0 0 0 0
  | .mGet => assemble 0x42 0 0 0 0
  | .mRect => assemble 0x43 0 0 0 0
  | .mNegate => assemble 0x44 0 0 0 0
  | .mTranspose => assemble 0x45 0 0 0 0
  | .mBorder => assemble 0x46 0 0 0 0
  | .mPopcount => assemble 0x47 0 0 0 0
  | .mCountPattern => assemble 0x48 0 0 0 0
  | .mCountBoxes => assemble 0x49 0 0 0 0
  | .mAssertDrawn => assemble 0x4A 0 0 0 0
  | .mPenalty => assemble 0x4B 0 0 0 0
  | .rRaw => assemble 0x50 0 0 0 0
  | .rGif => assemble 0x51 0 0 0 0
  | .bFormat => assemble 0x60 0 0 0 0
  | .bVersion => assemble 0x61 0 0 0 0
  | .bFormatDecode => assemble 0x62 0 0 0 0
  | .bVersionDecode => assemble 0x63 0 0 0 0
  | .lTemplate => assemble 0x64 0 0 0 0
  | .lReserve => assemble 0x65 0 0 0 0
  | .lFormatRead => assemble 0x66 0 0 0 0
  | .lVersionRead => assemble 0x67 0 0 0 0
  | .lDraw => assemble 0x70 0 0 0 0
  | .lRead => assemble 0x71 0 0 0 0
  | .zStart => assemble 0x72 0 0 0 0
  | .zNext => assemble 0x73 0 0 0 0
  | .zPut => assemble 0x74 0 0 0 0
  | .zGet => assemble 0x75 0 0 0 0
  | .lMaskApply => assemble 0x76 0 0 0 0
  | .lMaskBit => assemble 0x77 0 0 0 0

/-- The command the decoder reads from a word whose bits are `w`, of which the row gives the low `nbits`, every bit above
them 0. A command is one 32-bit word (R120): more bits are no command. -/
def decodeTableWord (nbits w : Nat) : Option Instr :=
  if nbits ≤ 32 then
    match decode (BitVec.ofNat 32 (w % 2 ^ nbits)) with
    | .ok i => some i
    | .error _ => none
  else none

end Sys2Proof
end

