-- ==== Sys2Proof/Machine/Port.lean ====
section
/-! DEFINITION. The host's port: the register window, what a host read returns, what a host write does, and the soft reset
(10_state.md R31 to R45, 20_memory.md R80 to R87, 70_reset_and_hazards.md R522, R523, R530 to R534). -/

namespace Sys2Proof.Machine

/-- What a word offset of the window names (10_state.md R31): `k` counts the 32-bit words of a memory window. -/
inductive Region where
  | id
  | ctrl
  | status
  | cmd
  | arg (i : Fin 8)
  | res (i : Fin 4)
  | mdim
  | zstate
  | sdata
  | sremain
  | dram (k : Nat)
  | dplane (k : Nat)
  | vplane (k : Nat)
  | rplane (k : Nat)
  | reserved
  deriving DecidableEq, Repr

/-- The window's map, by the word offset `A` (byte offset `4·A`; R31, R80). -/
def regionOf (a : BitVec 14) : Region :=
  let n := a.toNat
  if n = 0 then .id
  else if n = 1 then .ctrl
  else if n = 2 then .status
  else if n = 3 then .cmd
  else if n < 12 then .arg (Fin.ofNat 8 (n - 4))
  else if n < 16 then .res (Fin.ofNat 4 (n - 12))
  else if n = 16 then .mdim
  else if n = 17 then .zstate
  else if n = 18 then .sdata
  else if n = 19 then .sremain
  else if n < 0x400 then .reserved
  else if n < 0x800 then .dram (n - 0x400)
  else if n < 0x1000 then .dplane (n - 0x800)
  else if n < 0x1800 then .vplane (n - 0x1000)
  else if n < 0x2000 then .rplane (n - 0x1800)
  else .reserved

/-! ### Words of the memory windows -/

/-- Word `k` of the DRAM window: `DRAM[4k+i]` in byte lane `i` (R50, 20_memory.md R81). -/
def State.dramWord (s : State) (k : Nat) : Word :=
  BitVec.ofNat 32 (((List.range 4).map fun i => (Memory.read s.dram (4 * k + i)).toNat <<< (8 * i)).sum)

/-- Word `k` of a plane window (R45). -/
def Plane.word (p : Plane) (k : Nat) : Word := p.extractLsb' (32 * k) 32

/-- The plane with word `k` replaced (R45). -/
def Plane.setWord (p : Plane) (k : Nat) (d : Word) : Plane :=
  (p &&& ~~~((0xFFFFFFFF#32).setWidth 65536 <<< (32 * k))) ||| (d.setWidth 65536 <<< (32 * k))

/-- The bits of the lanes whose strobe is set (20_memory.md R83). -/
def strobeMask (be : BitVec 4) : Word :=
  BitVec.ofNat 32 (((List.range 4).map fun i => if be.getLsbD i then 0xFF <<< (8 * i) else 0).sum)

/-- A word with the strobed lanes taken from `new` (R83). -/
def strobed (be : BitVec 4) (old new : Word) : Word := (old &&& ~~~strobeMask be) ||| (new &&& strobeMask be)

/-- Byte lane `i` of a word (R81). -/
def laneByte (d : Word) (i : Nat) : Byte := d.extractLsb' (8 * i) 8

/-- A host write to word `k` of the DRAM window: each strobed lane in turn (R50, R83). -/
def State.writeDramWord (s : State) (k : Nat) (be : BitVec 4) (d : Word) : State :=
  (List.range 4).foldl
    (fun t i => if be.getLsbD i then t.memWrite (4 * k + i) [laneByte d i] else t) s

/-- A write of the D or V plane makes the unread bytes of an armed stream unspecified (70_reset_and_hazards.md R533; log
entry 12); with no strobe set nothing is written (log entry 10). -/
def State.stalen (s : State) (be : BitVec 4) : State :=
  { s with stream := { s.stream with stale := s.stream.stale || (s.svalid && be != 0#4) } }

/-! ### Reads -/

/-- The port's read data, and one more unspecified value drawn (log entries 6, 7). -/
def State.answerFree (s : State) (v : Word) : State := { s with rdata := v, fresh := s.fresh + 1 }

/-- The port's read data (20_memory.md R80; log entry 6). -/
def State.answer (s : State) (v : Word) : State := { s with rdata := v }

/-- A read of SDATA while no command is in flight (10_state.md R41, 42_render.md R236); a stale byte is unspecified (R533). -/
def State.readSdata (s : State) : State :=
  if s.svalid then
    if s.stream.stale then
      State.answerFree { s with stream := s.stream.advance } (0x100#32 ||| (Config.freeByte s.fresh).setWidth 32)
    else State.answer { s with stream := s.stream.advance } (0x100#32 ||| s.outByte.setWidth 32)
  else s.answer 0#32

/-- A host read while `BUSY = 0` (10_state.md R32 to R45; the strobes do not matter, 20_memory.md R83). -/
def State.readIdle (s : State) (a : BitVec 14) : State :=
  match regionOf a with
  | .id => s.answer Config.idValue
  | .ctrl => s.answer s.ctrlWord
  | .status => s.answer s.statusWord
  | .cmd => s.answer s.cmd
  | .arg i => s.answer s.arg[i]
  | .res i => s.answer s.res[i]
  | .mdim => s.answer s.mdimWord
  | .zstate => s.answer s.zstateWord
  | .sdata => s.readSdata
  | .sremain => s.answer s.stream.remain
  | .dram k => s.answer (s.dramWord k)
  | .dplane k => s.answer (Plane.word s.dplane k)
  | .vplane k => s.answer (Plane.word s.vplane k)
  | .rplane k => s.answer (Plane.word s.rplane k)
  | .reserved => s.answer 0#32

/-- A host read while `BUSY = 1` (70_reset_and_hazards.md R532; log entry 8): ID, CTRL, STATUS but SVALID, CMD, ARG and the
reserved offsets are defined, every other word is unspecified, and a read of SDATA may or may not take a byte. -/
def State.readBusy (s : State) (a : BitVec 14) : State :=
  match regionOf a with
  | .id => s.answer Config.idValue
  | .ctrl => s.answer s.ctrlWord
  | .status => s.answerFree (s.status.word (Config.freeBit s.fresh))
  | .cmd => s.answer s.cmd
  | .arg i => s.answer s.arg[i]
  | .res _ => s.answerFree (Config.freeWord s.fresh)
  | .mdim => s.answerFree (Config.freeWord s.fresh)
  | .zstate => s.answerFree (Config.freeWord s.fresh)
  | .sdata =>
    State.answerFree
      { s with stream := if s.svalid && Config.freeBit s.fresh then s.stream.advance else s.stream }
      (Config.freeWord s.fresh)
  | .sremain => s.answerFree (Config.freeWord s.fresh)
  | .dram _ => s.answerFree (Config.freeWord s.fresh)
  | .dplane _ => s.answerFree (Config.freeWord s.fresh)
  | .vplane _ => s.answerFree (Config.freeWord s.fresh)
  | .rplane _ => s.answerFree (Config.freeWord s.fresh)
  | .reserved => s.answer 0#32

/-- A host read (20_memory.md R80, R87). -/
def State.hostRead (s : State) (a : BitVec 14) : State := if s.status.busy then s.readBusy a else s.readIdle a

/-! ### Soft reset -/

/-- The soft reset (70_reset_and_hazards.md R522, 10_state.md R56): DRAM and the planes keep their contents. SSCALE and SBPP,
which R56 does not name, keep theirs (log entry 5). -/
def State.softReset (s : State) : State :=
  State.cancelStream
    { s with
      irqEn  := false
      status := Status.zero
      cmd    := 0#32
      arg    := Vector.replicate 8 0#32
      res    := Vector.replicate 4 0#32
      height := 0
      width  := 0
      poly   := Vector.replicate 8 [0#8]
      cursor := Cursor.zero }

/-- Which plane bits a command's rule could write (R523). -/
inductive PlaneReach where
  /-- None. -/
  | none
  /-- The D and V bits of the window. -/
  | window
  /-- Every RSV bit. -/
  | reserve
  /-- Every D, V and RSV bit: the commands that set H and W. -/
  | whole
  deriving DecidableEq, Repr

/-- The plane bits each command could write (R523; log entry 11). -/
def planeReach : Instr → PlaneReach
  | .mNew | .mTranspose | .mBorder | .lTemplate | .lDraw => .whole
  | .lReserve => .reserve
  | .mSet | .mRect | .mNegate | .zPut | .lMaskApply => .window
  | .nop | .sStreamCancel | .gfAdd | .gfMul | .gfInv | .gfPow | .gfExp | .gfLog => .none
  | .pLoad _ | .pStore _ | .pMono _ | .pAdd _ _ _ | .pMul _ _ _ | .pScale _ _ | .pMulmono _ _ => .none
  | .pRem _ _ _ | .pEval _ | .pGen _ | .pEuclid _ _ _ _ | .rsEncode | .rsSyndrome | .rsDecode => .none
  | .mGet | .mPopcount | .mCountPattern | .mCountBoxes | .mAssertDrawn | .mPenalty | .rRaw | .rGif => .none
  | .bFormat | .bVersion | .bFormatDecode | .bVersionDecode | .lFormatRead | .lVersionRead | .lRead => .none
  | .zStart | .zNext | .zGet | .lMaskBit => .none

/-- The DRAM range each command could write: its base and length (R523; log entry 11). -/
def State.dramReach (s : State) : Instr → Nat × Nat
  | .pStore rs1 => (s.argv 0, (s.getPoly rs1).length)
  | .rsEncode | .rsSyndrome => (s.argv 3, s.argv 2)
  | .rsDecode => (s.argv 0, s.argv 1)
  | .lRead => (s.argv 2, s.argv 3)
  | .nop | .sStreamCancel | .gfAdd | .gfMul | .gfInv | .gfPow | .gfExp | .gfLog => (0, 0)
  | .pLoad _ | .pMono _ | .pAdd _ _ _ | .pMul _ _ _ | .pScale _ _ | .pMulmono _ _ => (0, 0)
  | .pRem _ _ _ | .pEval _ | .pGen _ | .pEuclid _ _ _ _ => (0, 0)
  | .mNew | .mSet | .mGet | .mRect | .mNegate | .mTranspose | .mBorder | .mPopcount | .mCountPattern | .mCountBoxes => (0, 0)
  | .mAssertDrawn | .mPenalty | .rRaw | .rGif | .bFormat | .bVersion | .bFormatDecode | .bVersionDecode => (0, 0)
  | .lTemplate | .lReserve | .lFormatRead | .lVersionRead | .lDraw | .zStart | .zNext | .zPut | .zGet => (0, 0)
  | .lMaskApply | .lMaskBit => (0, 0)

/-- A range clipped to DRAM. -/
def clipRange (r : Nat × Nat) : Nat × Nat := (r.1, min r.2 (Config.dramBytes - r.1))

/-- `n` unspecified bytes written from `a` on (R523; log entry 7). -/
def State.freeDram (s : State) (a n : Nat) : State :=
  { s.memWrite a ((List.range n).map fun i => Config.freeByte (s.fresh + i)) with fresh := s.fresh + n }

/-- The plane bits in reach unspecified (R523; log entry 7). -/
def State.freePlanes (s : State) (r : PlaneReach) : State :=
  match r with
  | .none => s
  | .window =>
    { s with
      dplane := Plane.mergeOn s.dplane s.width s.height (fun _ _ => true) (Plane.get (Config.freePlane s.fresh))
      vplane := Plane.mergeOn s.vplane s.width s.height (fun _ _ => true) (Plane.get (Config.freePlane (s.fresh + 1)))
      fresh  := s.fresh + 2 }
  | .reserve => { s with rplane := Config.freePlane s.fresh, fresh := s.fresh + 1 }
  | .whole =>
    { s with
      dplane := Config.freePlane s.fresh
      vplane := Config.freePlane (s.fresh + 1)
      rplane := Config.freePlane (s.fresh + 2)
      fresh  := s.fresh + 3 }

/-- The command in flight abandoned: every location its rule could write is unspecified (R523). A word that does not decode
could write none. -/
def State.abandon (s : State) : State :=
  match decode s.cmd with
  | .error _ => s
  | .ok i =>
    (s.freeDram (clipRange (s.dramReach i)).1 (clipRange (s.dramReach i)).2).freePlanes (planeReach i)

/-- A full-strobe host write to CTRL (10_state.md R33): IRQ_EN, then the soft reset if SRST is 1 (R522, R523). -/
def State.writeCtrl (s : State) (d : Word) : State :=
  if d.getLsbD 1 then (if s.status.busy then s.abandon.softReset else s.softReset)
  else { s with irqEn := d.getLsbD 0 }

/-! ### Writes -/

/-- All four strobes set (20_memory.md R83). -/
def fullStrobe (be : BitVec 4) : Bool := be == 0xF#4

/-- A host write while `BUSY = 0` (10_state.md R33 to R36, R43, R45, R50, 20_memory.md R83). -/
def State.writeIdle (s : State) (a : BitVec 14) (be : BitVec 4) (d : Word) : State :=
  match regionOf a with
  | .ctrl => if fullStrobe be then s.writeCtrl d else s
  | .status => if fullStrobe be then s.writeStatus d else s
  | .cmd => if fullStrobe be then s.accept d else s
  | .arg i => { s with arg := s.arg.set i (strobed be s.arg[i] d) }
  | .dram k => s.writeDramWord k be d
  | .dplane k => State.stalen { s with dplane := Plane.setWord s.dplane k (strobed be (Plane.word s.dplane k) d) } be
  | .vplane k => State.stalen { s with vplane := Plane.setWord s.vplane k (strobed be (Plane.word s.vplane k) d) } be
  | .rplane k => { s with rplane := Plane.setWord s.rplane k (strobed be (Plane.word s.rplane k) d) }
  | .id | .res _ | .mdim | .zstate | .sdata | .sremain | .reserved => s

/-- A host write while `BUSY = 1` (70_reset_and_hazards.md R530, R531): a command word is dropped and sets OVR; ARG, DRAM and
plane writes are forbidden, and refused (log entry 9) unless no strobe is set (log entry 10). -/
def State.writeBusy (s : State) (a : BitVec 14) (be : BitVec 4) (d : Word) : Outcome :=
  match regionOf a with
  | .ctrl => .next (if fullStrobe be then s.writeCtrl d else s)
  | .status => .next (if fullStrobe be then s.writeStatus d else s)
  | .cmd => .next (if fullStrobe be then s.overrun else s)
  | .arg _ | .dram _ | .dplane _ | .vplane _ | .rplane _ => if be = 0#4 then .next s else .refused .hostWriteWhileBusy
  | .id | .res _ | .mdim | .zstate | .sdata | .sremain | .reserved => .next s

/-- A host write (20_memory.md R80, R83). -/
def State.hostWrite (s : State) (a : BitVec 14) (be : BitVec 4) (d : Word) : Outcome :=
  if s.status.busy then s.writeBusy a be d else .next (s.writeIdle a be d)

/-- One host access. -/
def State.hostAccess (s : State) : Access → Outcome
  | .read a => .next (s.hostRead a)
  | .write a be d => s.hostWrite a be d

end Sys2Proof.Machine
end

