-- ==== Sys2Proof/Machine/Run.lean ====
section
/-! DEFINITION. One move of the machine: the block performs the command word in CMD (40_system.md R162), or the host makes its
next access; which of the two is next is the agenda's (log entry 1). -/

namespace Sys2Proof.Machine

/-- IllegalCommand with its detail (30_encoding.md R123, 60_exceptions.md R471). -/
def illegal : DecodeError → Raise
  | .noOpcode => raise .illegalCommand 0
  | .reservedBits => raise .illegalCommand 1
  | .sameDestination => raise .illegalCommand 2

/-- The command in flight performed and ended (R162): decode, then the command's rule. -/
def State.runCommand (s : State) : Outcome :=
  match decode s.cmd with
  | .error e => .next (s.errorEnd (illegal e))
  | .ok i => exec i s

/-- The block's move: the command in flight ends now; with none in flight nothing happens (10_state.md R30, 60_exceptions.md
R487). -/
def State.blockTurn (s : State) : Outcome := if s.status.busy then s.runCommand else .next s

/-- One move. -/
def State.takeTurn (s : State) : Turn → Outcome
  | .host a => s.hostAccess a
  | .block => s.blockTurn

/-- The next move of the agenda. With no move left, a command in flight ends (70_reset_and_hazards.md R536: every accepted
command eventually ends) and an idle machine stays as it is (60_exceptions.md R487). -/
def State.move (s : State) : Outcome :=
  match s.agenda with
  | [] => s.blockTurn
  | t :: rest => State.takeTurn { s with agenda := rest } t

end Sys2Proof.Machine
end

