-- ==== Sys2Proof/Machine/Step.lean ====
section
/-! DEFINITION. The step, and the placing of a command word where the next step performs it. -/

namespace Sys2Proof.Machine

/-- One step of the machine. -/
def step (s : State) : Host.Outcome State Fault Refusal := s.move

/-- The state in which the command word of bits `w`, of which the low `nbits` count, has just been accepted (10_state.md R35)
and the block's move, which performs it, is next (log entry 2). -/
def State.withFetchWord (s : State) (nbits w : Nat) : State :=
  { s.accept (BitVec.ofNat 32 (w % 2 ^ nbits)) with agenda := .block :: s.agenda }

end Sys2Proof.Machine
end

