-- ==== Sys2Proof/Safety.lean ====
section
/-! DEFINITION. The invariant every run keeps, what each command may write, and the short runs in whose terms claims are
stated. -/

namespace Sys2Proof.Machine

/-! ### The invariant -/

/-- A polynomial register's contents: a normal polynomial of 1 to 256 bytes (10_state.md R49, 00_scope.md R14). -/
abbrev polyHeld (p : Poly) : Prop := 1 ≤ p.length ∧ p.length ≤ Config.polyLenMax ∧ (p.length = 1 ∨ polyLead p ≠ 0#8)

/-- STATUS as R34, R35, R470 to R473 leave it: no end is recorded while a command is in flight, and a code and a detail are
recorded only with ERR. -/
abbrev Status.wf (st : Status) : Prop :=
  (st.busy = true → st.done = false ∧ st.err = false) ∧
  (st.err = false → st.errcode = 0#8 ∧ st.errinfo = 0#8) ∧
  (st.err = true → 1 ≤ st.errcode.toNat ∧ st.errcode.toNat ≤ 14)

/-- The cursor's place: its two coordinates fit ZSTATE (R40, R52), and while it is valid the matrix is a symbol and the column
pair lies in it (47_mask_zigzag.md R441, R447). -/
def State.cursorWf (s : State) : Prop :=
  s.cursor.xo < 256 ∧ s.cursor.y < 256 ∧
  (s.cursor.valid = true →
    s.height = s.width ∧ isSymbolSize s.width = true ∧ 1 ≤ s.cursor.xo ∧ s.cursor.xo < s.width ∧ s.cursor.y < s.width)

/-- The length of the byte sequence of the armed stream, 0 if none is armed (42_render.md R230, R232, R234). -/
def State.streamLength (s : State) : Nat :=
  match s.stream.kind with
  | .none => 0
  | .raw => s.rawLength s.stream.scale s.stream.bpp
  | .gif => s.gifLen s.stream.scale

/-- The stream: armed exactly while bytes are left, and then the bytes read and the bytes left make up the sequence, whose length
is below 2^32 (42_render.md R230, R232, R234, R236, R237). -/
def State.streamWf (s : State) : Prop :=
  (s.stream.kind = .none ↔ s.stream.remain = 0#32) ∧
  (s.stream.kind ≠ .none →
    1 ≤ s.height ∧ 1 ≤ s.width ∧ 1 ≤ s.stream.scale ∧ s.stream.scale ≤ Config.scaleMax ∧
    s.stream.pos.toNat + s.stream.remain.toNat = s.streamLength ∧ s.streamLength < 2 ^ 32) ∧
  (s.stream.kind = .raw → s.stream.bpp = 3 ∨ s.stream.bpp = 4)

/-- The invariant of the machine. -/
structure State.Inv (s : State) : Prop where
  dram   : Memory.wf s.dram = true
  dims   : s.height ≤ Config.matDimMax ∧ s.width ≤ Config.matDimMax
  polys  : ∀ r : PReg, polyHeld (s.getPoly r)
  status : s.status.wf
  cursor : s.cursorWf
  stream : s.streamWf

/-! ### What a command may write -/

/-- The state a command's rule names as written, by component. DRAM is told by `State.dramReach`. -/
structure Effects where
  /-- The RES registers the rule names (10_state.md R38). -/
  res         : List (Fin 4) := []
  /-- The polynomial registers the rule names (R49). -/
  poly        : List PReg := []
  /-- Whether the rule may write D or V: the matrix-writing commands (40_system.md R165). -/
  matrix      : Bool := false
  /-- Whether the rule may change H and W (10_state.md R44). -/
  dims        : Bool := false
  /-- Whether the rule writes RSV (R47, R48). -/
  rsv         : Bool := false
  /-- Whether the rule clears ZVALID: the cursor-invalidating commands (40_system.md R166). -/
  invalidates : Bool := false
  /-- Whether the rule sets or moves the cursor (47_mask_zigzag.md R443 to R446). -/
  cursor      : Bool := false
  /-- Whether the rule arms the stream (42_render.md R230). -/
  arms        : Bool := false

/-- The effects of each command. -/
def effects : Instr → Effects
  | .nop | .sStreamCancel | .mAssertDrawn => {}
  | .gfAdd | .gfMul | .gfInv | .gfPow | .gfExp | .gfLog => { res := [0] }
  | .pLoad rd | .pMono rd | .pGen rd => { res := [0], poly := [rd] }
  | .pAdd rd _ _ | .pMul rd _ _ | .pRem rd _ _ => { res := [0], poly := [rd] }
  | .pScale rd _ | .pMulmono rd _ => { res := [0], poly := [rd] }
  | .pStore _ | .pEval _ => { res := [0] }
  | .pEuclid rd rd2 _ _ => { res := [0, 1], poly := [rd, rd2] }
  | .rsEncode | .rsSyndrome => { res := [0] }
  | .rsDecode => { res := [0, 1] }
  | .mNew | .mTranspose | .mBorder => { matrix := true, dims := true, rsv := true, invalidates := true }
  | .mSet | .mRect | .mNegate | .lMaskApply => { matrix := true }
  | .mGet | .mPopcount | .mCountPattern | .mCountBoxes | .lMaskBit => { res := [0] }
  | .mPenalty => { res := [0, 1, 2, 3] }
  | .rRaw | .rGif => { res := [0], arms := true }
  | .bFormat | .bVersion => { res := [0] }
  | .bFormatDecode => { res := [0, 1, 2] }
  | .bVersionDecode => { res := [0, 2] }
  | .lTemplate | .lDraw => { res := [0, 1], matrix := true, dims := true, rsv := true, invalidates := true }
  | .lReserve => { res := [0], rsv := true, invalidates := true }
  | .lFormatRead | .lVersionRead => { res := [0, 1, 2, 3] }
  | .lRead => { res := [0] }
  | .zStart => { cursor := true }
  | .zNext | .zGet => { res := [0, 1, 2, 3], cursor := true }
  | .zPut => { res := [0, 1, 2, 3], matrix := true, cursor := true }

/-! ### Which error a command reports -/

/-- One `require` line: the error it raises unless the condition holds (00_scope.md R12). -/
def needs (c : Prop) [Decidable c] (k : ErrKind) (info : Nat) : Option Raise :=
  if c then none else some ⟨k, BitVec.ofNat 8 info⟩

/-- A coordinate that resolves against a dimension (30_encoding.md R125). -/
abbrev inside (c : Word) (dim : Nat) : Prop := -(dim : Int) ≤ c.toInt ∧ c.toInt < dim

/-- The least distance of a copy to a format code, the `bd` of 46_layout_bch.md R374. -/
def fmtLeast (c1 c2 : Nat) : Nat := (fmtCandidates.map fun em => copyDist (fmtcode em.1 em.2) c1 c2).foldl min 16

/-- The least distance of a copy to a version code, the `bd` of R375. -/
def verLeast (c1 c2 : Nat) : Nat := (verCandidates.map fun v => copyDist (vercode v) c1 c2).foldl min 19

/-- A byte operand (30_encoding.md R126). -/
abbrev State.byteCheck (s : State) (i : Fin 8) : Option Raise := needs (s.argv i ≤ 255) .operandRange i

/-- The range check of `n` bytes from ARG[i] on (20_memory.md R88). -/
abbrev State.rangeCheck (s : State) (i : Fin 8) (n : Nat) : Option Raise := needs (s.argv i + n ≤ 4096) .addressRange i

/-- A coordinate operand (R125). -/
abbrev State.coordCheck (s : State) (i : Fin 8) (dim : Nat) : Option Raise := needs (inside s.arg[i] dim) .outOfBounds i

/-- The first error a command's checks meet, in the order of 60_exceptions.md R475, row by row. Left to the algorithms of
44_poly.md R300 and 45_rs.md R336 are RsUndecodable(2) of P_EUCLID and RsUndecodable of RS_DECODE. -/
def State.firstError (s : State) : Instr → Option Raise
  | .nop | .sStreamCancel | .gfExp | .pAdd _ _ _ | .mNegate | .mTranspose | .mPopcount => none
  | .gfAdd | .gfMul => s.byteCheck 0 <|> s.byteCheck 1
  | .gfInv | .gfLog => s.byteCheck 0 <|> needs (s.argv 0 ≠ 0) .domainError 0
  | .gfPow | .pScale _ _ | .pEval _ | .pGen _ => s.byteCheck 0
  | .pLoad _ => needs (1 ≤ s.argv 1 ∧ s.argv 1 ≤ 256) .operandRange 1 <|> s.rangeCheck 0 (s.argv 1)
  | .pStore rs1 => s.rangeCheck 0 (s.getPoly rs1).length
  | .pMono _ => s.byteCheck 0 <|> s.byteCheck 1
  | .pMul _ rs1 rs2 =>
    needs (s.getPoly rs1 = [0#8] ∨ s.getPoly rs2 = [0#8] ∨ (s.getPoly rs1).length + (s.getPoly rs2).length - 1 ≤ 256)
      .polyOverflow 0
  | .pMulmono _ rs1 =>
    s.byteCheck 0 <|> s.byteCheck 1 <|>
      needs (s.getPoly rs1 = [0#8] ∨ s.argv 1 = 0 ∨ (s.getPoly rs1).length + s.argv 0 ≤ 256) .polyOverflow 0
  | .pRem _ _ rs2 => needs (s.getPoly rs2 ≠ [0#8]) .divideByZero 0
  | .pEuclid _ _ _ _ => needs (s.argv 0 ≠ 0) .rsUndecodable 1
  | .rsEncode =>
    needs (s.argv 2 ≤ 30) .operandRange 2 <|> needs (s.argv 1 + s.argv 2 ≤ 255) .operandRange 1 <|>
      s.rangeCheck 0 (s.argv 1) <|> s.rangeCheck 3 (s.argv 2)
  | .rsSyndrome =>
    needs (1 ≤ s.argv 1 ∧ s.argv 1 ≤ 255) .operandRange 1 <|> needs (s.argv 2 ≤ 30) .operandRange 2 <|>
      s.rangeCheck 0 (s.argv 1) <|> s.rangeCheck 3 (s.argv 2)
  | .rsDecode =>
    needs (1 ≤ s.argv 1 ∧ s.argv 1 ≤ 255) .operandRange 1 <|> needs (s.argv 2 ≤ 30) .operandRange 2 <|>
      s.rangeCheck 0 (s.argv 1)
  | .mNew => needs (1 ≤ s.argv 0 ∧ s.argv 0 ≤ 256) .outOfBounds 0 <|> needs (1 ≤ s.argv 1 ∧ s.argv 1 ≤ 256) .outOfBounds 1
  | .mSet => s.coordCheck 0 s.width <|> s.coordCheck 1 s.height <|> needs (s.argv 2 ≤ 2) .operandRange 2
  | .mGet => s.coordCheck 0 s.width <|> s.coordCheck 1 s.height
  | .mRect => s.coordCheck 0 s.width <|> s.coordCheck 1 s.height <|> needs (s.argv 4 ≤ 2) .operandRange 4
  | .mBorder =>
    needs (s.height + 2 * s.argv 0 ≤ 256 ∧ s.width + 2 * s.argv 0 ≤ 256) .outOfBounds 0 <|>
      needs (1 ≤ s.argv 1 ∧ s.argv 1 ≤ 2) .operandRange 1
  | .mCountPattern =>
    s.coordCheck 0 s.height <|> needs (1 ≤ s.argv 1 ∧ s.argv 1 ≤ 31) .operandRange 1 <|>
      needs (s.argv 4 = 1 ∨ s.argv 4 = 2) .operandRange 4 <|> needs (s.argv 2 < 2 ^ s.argv 1) .operandRange 2 <|>
      needs (s.argv 4 = 2 → s.argv 3 < 2 ^ s.argv 1) .operandRange 3
  | .mCountBoxes => s.coordCheck 0 s.height <|> needs (s.arg[0].toInt ≠ -1 ∧ s.arg[0].toInt + 1 ≠ s.height) .outOfBounds 0
  | .mAssertDrawn => needs (s.drawn = true) .layoutMismatch 1
  | .mPenalty => needs (1 ≤ s.height ∧ 1 ≤ s.width) .layoutMismatch 5 <|> needs (s.drawn = true) .layoutMismatch 1
  | .rRaw =>
    needs (1 ≤ s.argv 0 ∧ s.argv 0 ≤ 1024) .operandRange 0 <|> needs (s.argv 1 = 3 ∨ s.argv 1 = 4) .operandRange 1 <|>
      needs (1 ≤ s.height ∧ 1 ≤ s.width) .layoutMismatch 5 <|> needs (s.drawn = true) .layoutMismatch 1 <|>
      needs (s.width * s.argv 0 * (s.height * s.argv 0) * s.argv 1 < 2 ^ 32) .operandRange 0
  | .rGif =>
    needs (1 ≤ s.argv 0 ∧ s.argv 0 ≤ 1024) .operandRange 0 <|> needs (1 ≤ s.height ∧ 1 ≤ s.width) .layoutMismatch 5 <|>
      needs (s.drawn = true) .layoutMismatch 1 <|>
      needs (s.width * s.argv 0 ≤ 65535 ∧ s.height * s.argv 0 ≤ 65535) .operandRange 0 <|>
      needs (s.gifLen (s.argv 0) < 2 ^ 32) .operandRange 0
  | .bFormat => needs (s.argv 0 ≤ 3) .invalidEcc 0 <|> needs (s.argv 1 ≤ 7) .invalidMask 1
  | .bVersion => needs (7 ≤ s.argv 0 ∧ s.argv 0 ≤ 40) .invalidVersion 0
  | .bFormatDecode =>
    needs (s.argv 0 ≤ 0x7FFF) .operandRange 0 <|> needs (s.argv 1 ≤ 0x7FFF) .operandRange 1 <|>
      needs (fmtLeast (s.argv 0) (s.argv 1) ≤ 3) .wrongFormatPattern (fmtLeast (s.argv 0) (s.argv 1))
  | .bVersionDecode =>
    needs (s.argv 0 ≤ 0x3FFFF) .operandRange 0 <|> needs (s.argv 1 ≤ 0x3FFFF) .operandRange 1 <|>
      needs (verLeast (s.argv 0) (s.argv 1) ≤ 3) .wrongVersionPattern (verLeast (s.argv 0) (s.argv 1))
  | .lTemplate =>
    needs (1 ≤ s.argv 0 ∧ s.argv 0 ≤ 40) .invalidVersion 0 <|> needs (s.argv 1 ≤ 3) .invalidEcc 1 <|>
      needs (s.argv 2 ≤ 7) .invalidMask 2 <|> needs (s.argv 3 ≤ 1) .operandRange 3
  | .lReserve => needs (1 ≤ s.argv 0 ∧ s.argv 0 ≤ 40) .invalidVersion 0
  | .lFormatRead =>
    needs (s.height = s.width ∧ isSymbolSize s.width = true) .layoutMismatch 3 <|>
      needs (fmtLeast (s.readBits 15 fmt1) (s.readBits 15 (fmt2 s.width)) ≤ 3) .wrongFormatPattern
        (fmtLeast (s.readBits 15 fmt1) (s.readBits 15 (fmt2 s.width)))
  | .lVersionRead =>
    needs (s.height = s.width ∧ isSymbolSize s.width = true) .layoutMismatch 3 <|>
      needs (s.width < 45 ∨ verLeast (s.readBits 18 (ver1 s.width)) (s.readBits 18 (ver2 s.width)) ≤ 3) .wrongVersionPattern
        (verLeast (s.readBits 18 (ver1 s.width)) (s.readBits 18 (ver2 s.width)))
  | .lDraw =>
    needs (1 ≤ s.argv 0 ∧ s.argv 0 ≤ 40) .invalidVersion 0 <|> needs (s.argv 1 ≤ 3) .invalidEcc 1 <|>
      needs (s.argv 2 ≤ 8) .invalidMask 2 <|> s.rangeCheck 3 (s.argv 4) <|>
      needs (8 * s.argv 4 ≤ capacity (s.argv 0)) .layoutMismatch 2
  | .lRead =>
    needs (1 ≤ s.argv 0 ∧ s.argv 0 ≤ 40) .invalidVersion 0 <|> needs (s.argv 1 ≤ 7) .invalidMask 1 <|>
      needs (s.height = 17 + 4 * s.argv 0 ∧ s.width = 17 + 4 * s.argv 0) .layoutMismatch 3 <|>
      s.rangeCheck 2 (s.argv 3) <|> needs (8 * s.argv 3 ≤ capacity (s.argv 0)) .layoutMismatch 2 <|>
      needs (((zz (s.argv 0)).take (8 * s.argv 3)).all (fun c => Plane.get s.dplane c.1 c.2) = true) .layoutMismatch 1
  | .zStart =>
    needs (s.argv 0 ≤ 7) .invalidMask 0 <|> needs (s.height = s.width ∧ isSymbolSize s.width = true) .layoutMismatch 3
  | .zNext => needs (s.cursor.valid = true) .layoutMismatch 4
  | .zPut =>
    needs (s.argv 0 ≤ 1) .operandRange 0 <|> needs (s.cursor.valid = true) .layoutMismatch 4 <|>
      needs (s.sought.done = false) .layoutMismatch 4
  | .zGet =>
    needs (s.cursor.valid = true) .layoutMismatch 4 <|> needs (s.sought.done = false) .layoutMismatch 4 <|>
      needs (Plane.get s.dplane s.sought.cell.1 s.sought.cell.2 = true) .layoutMismatch 1
  | .lMaskApply => needs (s.argv 0 ≤ 7) .invalidMask 0
  | .lMaskBit => needs (s.argv 0 ≤ 7) .invalidMask 0 <|> s.byteCheck 1 <|> s.byteCheck 2

/-- The command reports its first error, by an error end (60_exceptions.md R472, R474). -/
def State.reportsErrors (s : State) (i : Instr) : Prop :=
  ∀ e, s.firstError i = some e → exec i s = .next (s.errorEnd e)

/-! ### Products of polynomials -/

/-- The coefficient of `x^d` in the product of two polynomials. -/
def polyMulCoef (p q : Poly) (d : Nat) : Byte :=
  ((List.range (d + 1)).map fun i => gmul (polyCoef p i) (polyCoef q (d - i))).foldl gadd 0#8

/-- `l·b ≡ o` modulo `a` (44_poly.md R301). -/
def keyEquation (a b l o : Poly) : Prop := ∃ u : Poly, ∀ d, polyMulCoef l b d = gadd (polyCoef o d) (polyMulCoef u a d)

/-! ### States that look alike to every command -/

/-- The state with its three planes blanked: everything else it holds. -/
def State.withoutPlanes (s : State) : State := { s with dplane := 0#65536, vplane := 0#65536, rplane := 0#65536 }

/-- The two states differ at most in plane bits outside the window (10_state.md R47). -/
def State.SameInWindow (s t : State) : Prop :=
  s.withoutPlanes = t.withoutPlanes ∧
  ∀ x y, x < s.width → y < s.height →
    Plane.get s.dplane x y = Plane.get t.dplane x y ∧ Plane.get s.vplane x y = Plane.get t.vplane x y ∧
    Plane.get s.rplane x y = Plane.get t.rplane x y

/-- The two states differ at most in the V bits of unset cells of the window and in plane bits outside it (R46, R47). -/
def State.SameCells (s t : State) : Prop :=
  s.withoutPlanes = t.withoutPlanes ∧
  ∀ x y, x < s.width → y < s.height →
    s.cellcode x y = t.cellcode x y ∧ Plane.get s.rplane x y = Plane.get t.rplane x y

/-! ### Short runs -/

/-- The word offset of SDATA (10_state.md R41). -/
def sdataOffset : BitVec 14 := 18#14

/-- `n` host reads of SDATA in a row: the words read and the state after them. -/
def State.sdataReads : Nat → State → List Word × State
  | 0, s => ([], s)
  | n + 1, s =>
    let t := s.hostRead sdataOffset
    let r := State.sdataReads n t
    (t.rdata :: r.1, r.2)

/-- The byte sequence `OUT` of the armed stream (42_render.md R233, R235). -/
def State.outBytes (s : State) : List Byte :=
  match s.stream.kind with
  | .none => []
  | .raw => (List.range (s.rawLength s.stream.scale s.stream.bpp)).map (s.rawByte s.stream.scale s.stream.bpp)
  | .gif => s.gifBytes s.stream.scale

/-- The cells reported by up to `n` Z_NEXT commands in a row, up to the one that reports the end of the walk. -/
def State.nextCells : Nat → State → List (Nat × Nat)
  | 0, _ => []
  | n + 1, s =>
    match exec .zNext s with
    | .next t => if t.res[3] = 0#32 then (t.res[0].toNat, t.res[1].toNat) :: State.nextCells n t else []
    | .fault _ => []
    | .refused _ => []

/-- The first `n` candidate cells of a cursor in a `side × side` matrix, reserved or not (47_mask_zigzag.md R441). -/
def Cursor.cells (side : Nat) : Nat → Cursor → List (Nat × Nat)
  | 0, _ => []
  | n + 1, c => c.cell :: Cursor.cells side n (c.advance side)

end Sys2Proof.Machine
end

