-- ==== Sys2Proof/Certificates/Slice0/Obligations.lean ====
section
/-! DEFINITION. The statements for the provers, in the order of OBLIGATIONS.json: encoding, the step and the ends of a command,
frames, reset, the host port, then the results of each family and the headline laws. -/

open Sys2Proof Sys2Proof.Machine

/-! ### Encoding -/

/-- Decoding the word of a well-formed command gives the command back (30_encoding.md R121, R133, R135). -/
def Obligations.DecodeOfEncode : Prop := ∀ i : Instr, i.wellFormed = true → decode (encode i) = .ok i

/-- A word that decodes is the word of exactly the command it decodes to, and that command is well formed: no bit of a command
word is ignored (R122, R123, R134). -/
def Obligations.EncodeOfDecode : Prop :=
  ∀ (w : Word) (i : Instr), decode w = .ok i → encode i = w ∧ i.wellFormed = true

/-- Which words are rejected, and with which detail (R123): an opcode of no row, else a bit outside the row's fields, else a
P_EUCLID whose two destinations are one register. -/
def Obligations.DecodeRejections : Prop :=
  ∀ w : Word,
    (decode w = .error .noOpcode ↔ ∀ i : Instr, opcOf (encode i) ≠ opcOf w) ∧
    (decode w = .error .reservedBits ↔ (∃ i : Instr, opcOf (encode i) = opcOf w) ∧ ∀ i : Instr, encode i ≠ w) ∧
    (decode w = .error .sameDestination ↔ ∃ rd rs1 rs2 : PReg, w = encode (.pEuclid rd rd rs1 rs2))

/-- Words the spec prints, and what they stand for (R133, R135; 95_test_vectors.md L2.1, L3). -/
def Obligations.DecodeOfPrintedWords : Prop :=
  decode 0x00021323#32 = .ok (.pAdd 3 1 2) ∧ decode 0x0051042A#32 = .ok (.pEuclid 4 5 0 1) ∧
  decode 0x00000120#32 = .ok (.pLoad 1) ∧ decode 0x00006021#32 = .ok (.pStore 6) ∧
  decode 0x00004028#32 = .ok (.pEval 4) ∧ decode 0x00001225#32 = .ok (.pScale 2 1) ∧
  decode 0x00000032#32 = .ok .rsDecode ∧ decode 0x00000043#32 = .ok .mRect ∧ decode 0x00000070#32 = .ok .lDraw ∧
  decode 0x00000002#32 = .error .noOpcode ∧ decode 0x000000FF#32 = .error .noOpcode ∧
  decode 0x00000100#32 = .error .reservedBits ∧ decode 0x00821023#32 = .error .reservedBits ∧
  decode 0x00510C2A#32 = .error .reservedBits ∧ decode 0x0021022A#32 = .error .sameDestination

/-! ### The step, and the ends of a command -/

/-- One step. The block's move performs the command the word in CMD decodes to (40_system.md R162); the host's move makes its access;
an idle block does nothing (10_state.md R30). That the agenda says whose move is next, and that a command in flight ends when no
move is left, is the model's (log entry 1). -/
def Obligations.StepRunsDecodedCommand : Prop :=
  ∀ (s : State) (rest : List Turn),
    (∀ i, s.status.busy = true → decode s.cmd = .ok i →
      (s.agenda = .block :: rest → step s = exec i { s with agenda := rest }) ∧ (s.agenda = [] → step s = exec i s)) ∧
    (∀ a, s.agenda = .host a :: rest → step s = State.hostAccess { s with agenda := rest } a) ∧
    (s.status.busy = false → s.agenda = .block :: rest → step s = .next { s with agenda := rest }) ∧
    (s.status.busy = false → s.agenda = [] → step s = .next s)

/-- A command word that does not decode ends with IllegalCommand and its detail, and changes nothing but STATUS (30_encoding.md
R123, 60_exceptions.md R470 to R472), when it is the block's move or no move is left; that the latter ends the command, and that the
block's move is taken off the agenda, is the model's (log entry 1). -/
def Obligations.IllegalCommandEnds : Prop :=
  ∀ (s : State) (e : DecodeError) (rest : List Turn), s.status.busy = true → decode s.cmd = .error e →
    (s.agenda = .block :: rest ∨ (s.agenda = [] ∧ rest = [])) →
    step s = .next
      { s with
        agenda := rest
        status :=
          { s.status with
            busy := false, done := true, err := true, errcode := 0x01#8,
            errinfo := match e with
              | .noOpcode => 0#8
              | .reservedBits => 1#8
              | .sameDestination => 2#8 } }

/-- Every command ends, in every state: none faults, is refused or stays in flight. BUSY falls and DONE rises; without an error the
rest of STATUS is as acceptance left it; a command none of whose checks fails raises nothing, but for P_EUCLID and RS_DECODE, whose
algorithms may (R475); and the interrupt output is then IRQ_EN, until the host clears DONE or a command is
accepted (60_exceptions.md R472, R473, R480). -/
def Obligations.EveryCommandEnds : Prop :=
  ∀ (i : Instr) (s : State), ∃ t, exec i s = .next t ∧ t.status.busy = false ∧ t.status.done = true ∧
    (s.status.err = false → t.status.err = false → t.status = { s.status with busy := false, done := true }) ∧
    (s.firstError i = none → i ≠ .rsDecode → (∀ rd rd2 rs1 rs2, i ≠ .pEuclid rd rd2 rs1 rs2) → t.status.err = s.status.err) ∧
    t.irq = s.irqEn ∧ (∀ d : Word, d.getLsbD 1 = true → (t.writeStatus d).irq = false) ∧ ∀ w, (t.accept w).irq = false

/-- The error end: a command that raises, in decoding or in its rule, changes five fields of STATUS and nothing else whatever
(R472). -/
def Obligations.ErrorEndChangesOnlyStatus : Prop :=
  ∀ s t : State, s.status.err = false → s.runCommand = .next t → t.status.err = true →
    ∃ (k : ErrKind) (info : Byte),
      t = { s with
            status := { s.status with busy := false, done := true, err := true, errcode := k.code, errinfo := info } }

/-! ### Frames: what a command leaves unchanged -/

/-- A command writes no RES register its rule does not name (10_state.md R38), no polynomial register but its destinations, and
never ARG, CMD, IRQ_EN or OVR (30_encoding.md R130). That it leaves the port's read data, the agenda and the counter as they are is
the model's (log entries 6, 1, 7). -/
def Obligations.FrameOfRegisters : Prop :=
  ∀ (i : Instr) (s t : State), exec i s = .next t →
    (∀ k : Fin 4, k ∉ (effects i).res → t.res[k] = s.res[k]) ∧
    (∀ r : PReg, r ∉ (effects i).poly → t.getPoly r = s.getPoly r) ∧
    t.arg = s.arg ∧ t.cmd = s.cmd ∧ t.irqEn = s.irqEn ∧ t.status.ovr = s.status.ovr ∧ t.rdata = s.rdata ∧
    t.agenda = s.agenda ∧ t.fresh = s.fresh

/-- DRAM outside the destination range of P_STORE, RS_ENCODE, RS_SYNDROME, RS_DECODE and L_READ is unchanged, and no other
command changes a byte of it (30_encoding.md R130): `dramReach` is the base and the length each rule writes. -/
def Obligations.FrameOfDram : Prop :=
  ∀ (i : Instr) (s t : State), exec i s = .next t → ∀ a : Nat,
    (a < (s.dramReach i).1 ∨ (s.dramReach i).1 + (s.dramReach i).2 ≤ a) → Memory.read t.dram a = Memory.read s.dram a

/-- Only the commands of R44 change H and W; only the matrix-writing commands (40_system.md R165) change D or V, and those that
keep H and W change only cells of the window, while those that set them leave every D and V bit outside the new window 0 (10_state.md
R47); only the commands of R47, R48 change RSV. -/
def Obligations.FrameOfMatrix : Prop :=
  ∀ (i : Instr) (s t : State), s.Inv → exec i s = .next t →
    ((effects i).dims = false → t.height = s.height ∧ t.width = s.width) ∧
    ((effects i).matrix = false → t.dplane = s.dplane ∧ t.vplane = s.vplane) ∧
    ((effects i).rsv = false → t.rplane = s.rplane) ∧
    ((effects i).dims = false → ∀ x y, ¬ (x < s.width ∧ y < s.height) →
      Plane.get t.dplane x y = Plane.get s.dplane x y ∧ Plane.get t.vplane x y = Plane.get s.vplane x y) ∧
    ((effects i).dims = true → s.status.err = false → t.status.err = false → ∀ x y, ¬ (x < t.width ∧ y < t.height) →
      Plane.get t.dplane x y = false ∧ Plane.get t.vplane x y = false)

/-- The matrix-writing commands cancel the stream when they end successfully, whatever their operands, and no raising command
cancels anything (40_system.md R165); of the others only S_STREAM_CANCEL and the render commands touch the stream. -/
def Obligations.StreamCancellation : Prop :=
  ∀ (i : Instr) (s t : State), s.status.err = false → exec i s = .next t →
    (t.status.err = true → t.stream = s.stream) ∧
    (t.status.err = false → ((effects i).matrix = true ∨ i = .sStreamCancel) →
      t.stream.kind = .none ∧ t.stream.pos = 0#32 ∧ t.stream.remain = 0#32) ∧
    ((effects i).matrix = false → i ≠ .sStreamCancel → (effects i).arms = false → t.stream = s.stream)

/-- Cursor invalidation (47_mask_zigzag.md R447, 40_system.md R166): the six commands clear ZVALID alone when they end
successfully; every other command but the four cursor commands leaves the cursor as it is; and none but Z_START and the six changes
ZVALID. -/
def Obligations.CursorInvalidation : Prop :=
  ∀ (i : Instr) (s t : State), s.status.err = false → exec i s = .next t →
    ((effects i).invalidates = true → t.status.err = false → t.cursor = { s.cursor with valid := false }) ∧
    (t.status.err = true → t.cursor = s.cursor) ∧
    ((effects i).invalidates = false → (effects i).cursor = false → t.cursor = s.cursor) ∧
    ((effects i).invalidates = false → i ≠ .zStart → t.cursor.valid = s.cursor.valid)

/-! ### Reset and the invariant -/

/-- The values the spec gives for a power-on reset (70_reset_and_hazards.md R520, R521; 10_state.md R56). -/
def Obligations.PowerOnReset : Prop :=
  let s := State.reset
  s.ctrlWord = 0#32 ∧ s.statusWord = 0#32 ∧ s.cmd = 0#32 ∧ (∀ i : Fin 8, s.arg[i] = 0#32) ∧ (∀ i : Fin 4, s.res[i] = 0#32) ∧
  s.mdimWord = 0#32 ∧ s.zstateWord = 0#32 ∧ s.stream.remain = 0#32 ∧ s.stream.kind = .none ∧ s.stream.pos = 0#32 ∧
  s.cursor = ⟨0, 0, .up, false, false, false, 0⟩ ∧ (∀ r : PReg, s.getPoly r = [0#8]) ∧ s.irq = false ∧
  (s.hostRead sdataOffset).rdata = 0#32 ∧ (s.hostRead 0#14).rdata = 0x51524301#32

/-- A host write to CTRL with fewer than four strobes does nothing, and one with SRST 0 only sets IRQ_EN. With SRST 1 it is the soft
reset (R522, 10_state.md R33, R56), here of an idle block: the named state takes its reset values, DRAM and the planes keep their
contents, whatever bit 0 of the word was. -/
def Obligations.SoftReset : Prop :=
  ∀ (s : State) (be : BitVec 4) (d : Word),
    (be ≠ 0xF#4 → s.hostWrite 1#14 be d = .next s) ∧
    (d.getLsbD 1 = false → s.hostWrite 1#14 0xF#4 d = .next { s with irqEn := d.getLsbD 0 }) ∧
    (s.status.busy = false → d.getLsbD 1 = true →
    ∃ t, s.hostWrite 1#14 0xF#4 d = .next t ∧
      t.irqEn = false ∧ t.status = Status.zero ∧ t.cmd = 0#32 ∧ (∀ i : Fin 8, t.arg[i] = 0#32) ∧
      (∀ i : Fin 4, t.res[i] = 0#32) ∧ t.height = 0 ∧ t.width = 0 ∧ (∀ r : PReg, t.getPoly r = [0#8]) ∧
      t.cursor = ⟨0, 0, .up, false, false, false, 0⟩ ∧
      t.stream.kind = .none ∧ t.stream.pos = 0#32 ∧ t.stream.remain = 0#32 ∧
      t.dram = s.dram ∧ t.dplane = s.dplane ∧ t.vplane = s.vplane ∧ t.rplane = s.rplane)

/-- A soft reset while a command is in flight (R523): the command is abandoned and never ends, the named state takes its reset
values, and the DRAM bytes, the plane bits of the window and RSV that the command's rule could not write are unchanged. What
they hold where it could write is free; how far it could write is the model's reading (log entry 11). -/
def Obligations.SoftResetInFlight : Prop :=
  ∀ (s : State) (d : Word), s.status.busy = true → d.getLsbD 1 = true →
    ∃ t, s.hostWrite 1#14 0xF#4 d = .next t ∧
      t.irqEn = false ∧ t.status = Status.zero ∧ t.cmd = 0#32 ∧ (∀ i : Fin 8, t.arg[i] = 0#32) ∧
      (∀ i : Fin 4, t.res[i] = 0#32) ∧ t.height = 0 ∧ t.width = 0 ∧ (∀ r : PReg, t.getPoly r = [0#8]) ∧
      t.cursor = ⟨0, 0, .up, false, false, false, 0⟩ ∧
      t.stream.kind = .none ∧ t.stream.pos = 0#32 ∧ t.stream.remain = 0#32 ∧
      (∀ e, decode s.cmd = .error e →
        t.dram = s.dram ∧ t.dplane = s.dplane ∧ t.vplane = s.vplane ∧ t.rplane = s.rplane) ∧
      (∀ i, decode s.cmd = .ok i →
        (∀ a, (a < (s.dramReach i).1 ∨ (s.dramReach i).1 + (s.dramReach i).2 ≤ a) →
          Memory.read t.dram a = Memory.read s.dram a) ∧
        ((effects i).matrix = false → t.dplane = s.dplane ∧ t.vplane = s.vplane) ∧
        ((effects i).rsv = false → t.rplane = s.rplane) ∧
        ((effects i).dims = false → ∀ x y, ¬ (x < s.width ∧ y < s.height) →
          Plane.get t.dplane x y = Plane.get s.dplane x y ∧ Plane.get t.vplane x y = Plane.get s.vplane x y))

/-- The invariant holds after a power-on reset. -/
def Obligations.InvariantAtReset : Prop := State.reset.Inv

/-- Every step keeps the invariant, whatever the agenda: canonical DRAM, H and W at most 256, normal polynomials of 1 to 256
bytes, a STATUS that records an error only with its code, a valid cursor inside a symbol, and a stream whose bytes read and bytes
left make up its sequence of fewer than 2^32 (10_state.md R34, R44, R49, R52, R53; 47_mask_zigzag.md R447). -/
def Obligations.StepKeepsInvariant : Prop := ∀ s t : State, s.Inv → step s = .next t → t.Inv

/-! ### The host port -/

/-- A full-strobe CMD write: accepted while idle, ignored with OVR set while BUSY; with fewer strobes it does nothing; a read of CMD
returns the word accepted last (10_state.md R35). -/
def Obligations.CommandWrite : Prop :=
  ∀ (s : State) (be : BitVec 4) (w : Word),
    (s.status.busy = false → s.hostWrite 3#14 0xF#4 w = .next
      { s with
        cmd := w
        status := { s.status with busy := true, done := false, err := false, errcode := 0#8, errinfo := 0#8 } }) ∧
    (s.status.busy = true → s.hostWrite 3#14 0xF#4 w = .next { s with status := { s.status with ovr := true } }) ∧
    (be ≠ 0xF#4 → s.hostWrite 3#14 be w = .next s) ∧ (s.hostRead 3#14).rdata = s.cmd

/-- The STATUS word and the host's write-1-to-clear, with BUSY or without (10_state.md R34). -/
def Obligations.StatusRegister : Prop :=
  ∀ (s : State) (be : BitVec 4) (d : Word),
    (s.status.busy = false →
      let w := (s.hostRead 2#14).rdata
      w.getLsbD 0 = s.status.busy ∧ w.getLsbD 1 = s.status.done ∧ w.getLsbD 2 = s.status.err ∧
      w.getLsbD 3 = s.status.ovr ∧ w.getLsbD 4 = (s.stream.remain != 0#32) ∧ w.extractLsb' 5 3 = 0#3 ∧
      w.extractLsb' 8 8 = s.status.errcode ∧ w.extractLsb' 16 8 = s.status.errinfo ∧ w.extractLsb' 24 8 = 0#8) ∧
    (∃ t, s.hostWrite 2#14 0xF#4 d = .next t ∧ t = { s with status := t.status } ∧ t.status.busy = s.status.busy ∧
      t.status.done = (s.status.done && !d.getLsbD 1) ∧ t.status.err = (s.status.err && !d.getLsbD 2) ∧
      t.status.ovr = (s.status.ovr && !d.getLsbD 3) ∧
      t.status.errcode = (if d.getLsbD 2 then 0#8 else s.status.errcode) ∧
      t.status.errinfo = (if d.getLsbD 2 then 0#8 else s.status.errinfo)) ∧
    (be ≠ 0xF#4 → s.hostWrite 2#14 be d = .next s)

/-- The port reads of the registers: CTRL and ARG at any time, MDIM, ZSTATE, RES and SREMAIN of an idle block, with their fields in the
places the spec gives (10_state.md R33, R36, R38 to R40, R42). In flight, STATUS shows BUSY and OVR and no other bit but SVALID,
and no read changes anything but the port's read data and the model's own counter, save that a read of SDATA may take a byte
(70_reset_and_hazards.md R532; log entries 6, 7, 8). -/
def Obligations.FieldWords : Prop :=
  ∀ s : State, s.Inv →
    (s.hostRead 1#14).rdata = (if s.irqEn then 1#32 else 0#32) ∧
    (∀ i : Fin 8, (s.hostRead (BitVec.ofNat 14 (4 + i.val))).rdata = s.arg[i]) ∧
    (s.status.busy = false →
      (∀ i : Fin 4, (s.hostRead (BitVec.ofNat 14 (12 + i.val))).rdata = s.res[i]) ∧
      (s.hostRead 19#14).rdata = s.stream.remain ∧
      (let m := (s.hostRead 16#14).rdata
       (m.extractLsb' 0 9).toNat = s.width ∧ m.extractLsb' 9 7 = 0#7 ∧ (m.extractLsb' 16 9).toNat = s.height ∧
       m.extractLsb' 25 7 = 0#7) ∧
      (let z := (s.hostRead 17#14).rdata
       (z.extractLsb' 0 8).toNat = s.cursor.xo ∧ (z.extractLsb' 8 8).toNat = s.cursor.y ∧
       z.getLsbD 16 = (s.cursor.dir == .down) ∧ z.getLsbD 17 = s.cursor.j ∧ z.getLsbD 18 = s.cursor.done ∧
       z.getLsbD 19 = s.cursor.valid ∧ (z.extractLsb' 20 3).toNat = s.cursor.mask.val ∧ z.extractLsb' 23 9 = 0#9)) ∧
    (s.status.busy = true →
      (∀ b : Nat, b < 32 → b ≠ 4 →
        (s.hostRead 2#14).rdata.getLsbD b = (decide (b = 0) || (decide (b = 3) && s.status.ovr))) ∧
      ∀ a : BitVec 14, ∃ t, s.hostRead a = t ∧ t = { s with rdata := t.rdata, fresh := t.fresh, stream := t.stream } ∧
        (t.stream = s.stream ∨ (a = sdataOffset ∧ s.stream.remain ≠ 0#32 ∧ t.stream = s.stream.advance)))

/-- Reserved offsets read 0 and ignore writes, and read-only registers ignore writes, in flight or idle; ID reads its constant; no
read of an idle block but SDATA's changes anything except the port's read data; and no access ends in an error: every write to an idle
block goes through (10_state.md R32, R43, 20_memory.md R83, R87). While BUSY a write to ARG, DRAM or a plane, which
70_reset_and_hazards.md R531 forbids and lets a model refuse, is refused by name unless no strobe is set, and then does nothing: the
model's choices (log entries 9, 10). -/
def Obligations.ReadsAndIgnoredWrites : Prop :=
  ∀ (s : State) (a : BitVec 14) (be : BitVec 4) (d : Word),
    ((20 ≤ a.toNat ∧ a.toNat < 0x400) ∨ 0x2000 ≤ a.toNat →
      s.hostRead a = { s with rdata := 0#32 } ∧ s.hostWrite a be d = .next s) ∧
    (a.toNat = 0 ∨ (12 ≤ a.toNat ∧ a.toNat < 20) → s.hostWrite a be d = .next s) ∧
    s.hostRead 0#14 = { s with rdata := 0x51524301#32 } ∧
    (s.status.busy = false → a ≠ sdataOffset → s.hostRead a = { s with rdata := (s.hostRead a).rdata }) ∧
    (s.status.busy = false → ∃ t, s.hostWrite a be d = .next t) ∧
    (s.status.busy = true → ((4 ≤ a.toNat ∧ a.toNat < 12) ∨ (0x400 ≤ a.toNat ∧ a.toNat < 0x2000)) →
      s.hostWrite a be d = if be = 0#4 then .next s else .refused .hostWriteWhileBusy)

/-- Host writes by byte strobes, and the DRAM window: a write to ARG[i] or to a DRAM word replaces the strobed bytes and no other
state; word `k` of the window shows `DRAM[4k .. 4k+3]`, little-endian (10_state.md R36, R50, 20_memory.md R81, R83). -/
def Obligations.ArgAndDramWindows : Prop :=
  ∀ (s : State) (be : BitVec 4) (d : Word), s.status.busy = false →
    (∀ i : Fin 8, ∃ t, s.hostWrite (BitVec.ofNat 14 (4 + i.val)) be d = .next t ∧ t = { s with arg := t.arg } ∧
      (∀ j : Fin 8, j ≠ i → t.arg[j] = s.arg[j]) ∧
      (∀ n : Nat, n < 4 → t.arg[i].extractLsb' (8 * n) 8 =
        if be.getLsbD n then d.extractLsb' (8 * n) 8 else s.arg[i].extractLsb' (8 * n) 8)) ∧
    (∀ k : Nat, k < 1024 →
      (∀ n : Nat, n < 4 →
        (s.hostRead (BitVec.ofNat 14 (0x400 + k))).rdata.extractLsb' (8 * n) 8 = Memory.read s.dram (4 * k + n)) ∧
      ∃ t, s.hostWrite (BitVec.ofNat 14 (0x400 + k)) be d = .next t ∧ t = { s with dram := t.dram } ∧
        (∀ n : Nat, n < 4 → Memory.read t.dram (4 * k + n) =
          if be.getLsbD n then d.extractLsb' (8 * n) 8 else Memory.read s.dram (4 * k + n)) ∧
        (∀ a, (a < 4 * k ∨ 4 * k + 4 ≤ a) → Memory.read t.dram a = Memory.read s.dram a))

/-- The plane windows: plane bit `(x, y)` is bit `x mod 32` of word `8·y + x div 32`, and a write to a word of D, V or RSV replaces its
strobed bits and no other state but, for D and V, the model's own mark that the stream's unread bytes are unspecified (10_state.md
R45, 20_memory.md R83; log entry 12). -/
def Obligations.PlaneWindows : Prop :=
  ∀ (s : State) (x y : Nat) (be : BitVec 4) (d : Word), s.status.busy = false → x < 256 → y < 256 →
    let word := 8 * y + x / 32
    let written := fun (p : Plane) (x' y' : Nat) =>
      if y' = y ∧ x' / 32 = x / 32 ∧ be.getLsbD (x' % 32 / 8) = true then d.getLsbD (x' % 32) else Plane.get p x' y'
    (s.hostRead (BitVec.ofNat 14 (0x800 + word))).rdata.getLsbD (x % 32) = Plane.get s.dplane x y ∧
    (s.hostRead (BitVec.ofNat 14 (0x1000 + word))).rdata.getLsbD (x % 32) = Plane.get s.vplane x y ∧
    (s.hostRead (BitVec.ofNat 14 (0x1800 + word))).rdata.getLsbD (x % 32) = Plane.get s.rplane x y ∧
    (∃ t, s.hostWrite (BitVec.ofNat 14 (0x800 + word)) be d = .next t ∧
      t = { s with dplane := t.dplane, stream := { s.stream with stale := t.stream.stale } } ∧
      ∀ x' y', x' < 256 → y' < 256 → Plane.get t.dplane x' y' = written s.dplane x' y') ∧
    (∃ t, s.hostWrite (BitVec.ofNat 14 (0x1000 + word)) be d = .next t ∧
      t = { s with vplane := t.vplane, stream := { s.stream with stale := t.stream.stale } } ∧
      ∀ x' y', x' < 256 → y' < 256 → Plane.get t.vplane x' y' = written s.vplane x' y') ∧
    (∃ t, s.hostWrite (BitVec.ofNat 14 (0x1800 + word)) be d = .next t ∧ t = { s with rplane := t.rplane } ∧
      ∀ x' y', x' < 256 → y' < 256 → Plane.get t.rplane x' y' = written s.rplane x' y')

/-- A read of SDATA while idle returns the next stream byte with bit 8 set and moves the stream one on, or returns 0 and changes
nothing when the stream is empty; writes to SDATA are ignored (10_state.md R41). Where a host write to D or V has made the unread
bytes unspecified, the byte is some byte, and the stream still moves by one and still ends (70_reset_and_hazards.md R533). The mark
`stale` of such a stream and the counter `fresh` are the model's own (log entries 7, 12). -/
def Obligations.SdataRead : Prop :=
  ∀ s : State, s.status.busy = false →
    (s.stream.remain ≠ 0#32 →
      let t := s.hostRead sdataOffset
      t.stream.pos = s.stream.pos + 1#32 ∧ t.stream.remain = s.stream.remain - 1#32 ∧
      (t.stream.kind = if s.stream.remain = 1#32 then .none else s.stream.kind) ∧
      t.stream.scale = s.stream.scale ∧ t.stream.bpp = s.stream.bpp ∧
      t = { s with stream := t.stream, rdata := t.rdata, fresh := t.fresh } ∧
      (∃ b : Byte, t.rdata = 0x100#32 ||| b.setWidth 32) ∧
      (s.stream.stale = false → t.rdata = 0x100#32 ||| s.outByte.setWidth 32 ∧ t.fresh = s.fresh)) ∧
    (s.stream.remain = 0#32 → s.hostRead sdataOffset = { s with rdata := 0#32 }) ∧
    ∀ (be : BitVec 4) (d : Word), s.hostWrite sdataOffset be d = .next s

/-! ### GF(256) -/

/-- The six GF commands run on every operand their rules accept, and write RES0 alone; they refuse an operand above 255 with
OperandRange and its index, the first operand first, and GF_INV and GF_LOG refuse 0 with DomainError(0) (43_gf.md R267 to
R272, 60_exceptions.md R474). -/
def Obligations.GfResults : Prop :=
  ∀ s : State,
    (s.argv 0 ≤ 255 → s.argv 1 ≤ 255 →
      exec .gfAdd s = .next (s.setRes 0 (s.arg[0] ^^^ s.arg[1])).successEnd ∧
      exec .gfMul s = .next (s.setResNat 0 (gmul (s.argByte 0) (s.argByte 1)).toNat).successEnd) ∧
    (1 ≤ s.argv 0 → s.argv 0 ≤ 255 →
      exec .gfInv s = .next (s.setResNat 0 (ginv (s.argByte 0)).toNat).successEnd ∧
      exec .gfLog s = .next (s.setResNat 0 (glog (s.argByte 0))).successEnd) ∧
    (s.argv 0 ≤ 255 → exec .gfPow s = .next (s.setResNat 0 (gpow (s.argByte 0) (s.argv 1)).toNat).successEnd) ∧
    exec .gfExp s = .next (s.setResNat 0 (gexp (s.argv 0)).toNat).successEnd ∧
    (255 < s.argv 0 → ∀ i, (i = .gfAdd ∨ i = .gfMul ∨ i = .gfInv ∨ i = .gfPow ∨ i = .gfLog) →
      exec i s = .next (s.errorEnd ⟨.operandRange, 0#8⟩)) ∧
    (s.argv 0 ≤ 255 → 255 < s.argv 1 → ∀ i, (i = .gfAdd ∨ i = .gfMul) →
      exec i s = .next (s.errorEnd ⟨.operandRange, 1#8⟩)) ∧
    (s.argv 0 = 0 → ∀ i, (i = .gfInv ∨ i = .gfLog) → exec i s = .next (s.errorEnd ⟨.domainError, 0#8⟩))

/-- The tables: EXP is the powers of α by doubling modulo 0x11D, and LOG is its inverse with `LOG[1] = 0` (R260, R261). -/
def Obligations.GfTables : Prop :=
  gfExpAt 0 = 1#8 ∧
  (∀ i, i < 255 → gfExpAt (i + 1) = (gfExpAt i <<< 1) ^^^ (if (gfExpAt i).getLsbD 7 then 0x1D#8 else 0#8)) ∧
  (∀ i, i < 255 → gfLogAt (gfExpAt i) = i) ∧ (∀ a : Byte, a ≠ 0#8 → gfExpAt (gfLogAt a) = a ∧ gfLogAt a < 255) ∧
  gfLogAt 1#8 = 0 ∧ gfExpAt 255 = 1#8

/-- GF(256) is a field under these tables (R273). -/
def Obligations.GfFieldLaws : Prop :=
  (∀ a b : Byte, gmul a b = gmul b a) ∧ (∀ a b c : Byte, gmul (gmul a b) c = gmul a (gmul b c)) ∧
  (∀ a b c : Byte, gmul a (gadd b c) = gadd (gmul a b) (gmul a c)) ∧ (∀ a : Byte, gmul a 1#8 = a) ∧
  (∀ a : Byte, a ≠ 0#8 → gmul a (ginv a) = 1#8) ∧ (∀ a : Byte, a ≠ 0#8 → gexp (glog a) = a) ∧
  (∀ i : Nat, glog (gexp i) = i % 255) ∧ (∀ (a : Byte) (e f : Nat), gpow a (e + f) = gmul (gpow a e) (gpow a f)) ∧
  (∀ i : Nat, gexp i = 1#8 ↔ 255 ∣ i)

/-! ### Polynomials -/

/-- P_LOAD and P_STORE run on every valid DRAM range; P_STORE writes the polynomial's bytes from ARG0 on, highest degree first, and a
P_LOAD of the range it wrote gives the polynomial back in any register (44_poly.md R290, R291). Otherwise each reports the first
check that fails (60_exceptions.md R474, R475). -/
def Obligations.PolyLoadStore : Prop :=
  ∀ (s : State) (rd rs1 : PReg),
    (1 ≤ s.argv 1 → s.argv 1 ≤ 256 → s.argv 0 + s.argv 1 ≤ 4096 →
      exec (.pLoad rd) s = .next (s.putPoly rd (polyNorm (s.memRead (s.argv 0) (s.argv 1)))).successEnd) ∧
    (s.argv 0 + (s.getPoly rs1).length ≤ 4096 → polyHeld (s.getPoly rs1) →
      ∃ t, exec (.pStore rs1) s = .next t ∧ t.res = s.res.set 0 (BitVec.ofNat 32 (s.getPoly rs1).length) ∧
        (∀ j, j < (s.getPoly rs1).length → Memory.read t.dram (s.argv 0 + j) = (s.getPoly rs1).getD j 0#8) ∧
        (∀ a, (a < s.argv 0 ∨ s.argv 0 + (s.getPoly rs1).length ≤ a) → Memory.read t.dram a = Memory.read s.dram a) ∧
        ∃ u, exec (.pLoad rd) { t with arg := t.arg.set 1 t.res[0] } = .next u ∧ u.getPoly rd = s.getPoly rs1) ∧
    s.reportsErrors (.pLoad rd) ∧ s.reportsErrors (.pStore rs1)

/-- P_MONO, P_ADD, P_SCALE, P_EVAL and P_GEN run on every operand their rules accept (R292, R293, R295, R298, R299), and
otherwise report the first check that fails (60_exceptions.md R474, R475). -/
def Obligations.PolyArithmeticResults : Prop :=
  ∀ (s : State) (rd rs1 rs2 : PReg),
    exec (.pAdd rd rs1 rs2) s = .next (s.putPoly rd (padd (s.getPoly rs1) (s.getPoly rs2))).successEnd ∧
    (s.argv 0 ≤ 255 →
      exec (.pScale rd rs1) s = .next (s.putPoly rd (pscale (s.getPoly rs1) (s.argByte 0))).successEnd ∧
      exec (.pEval rs1) s = .next (s.setResNat 0 (peval (s.getPoly rs1) (s.argByte 0)).toNat).successEnd ∧
      exec (.pGen rd) s = .next ((s.setPoly rd (pgen (s.argv 0))).setResNat 0 (s.argv 0 + 1)).successEnd) ∧
    (s.argv 0 ≤ 255 → s.argv 1 ≤ 255 →
      exec (.pMono rd) s = .next (s.putPoly rd (pmono (s.argv 0) (s.argByte 1))).successEnd) ∧
    ∀ i, (i = .pScale rd rs1 ∨ i = .pEval rs1 ∨ i = .pGen rd ∨ i = .pMono rd) → s.reportsErrors i

/-- The coefficients of a sum, a multiple and a monomial, at every degree (R292, R293, R295), and the generator polynomial: of degree
`k` and leading coefficient 1, with the roots `α^0 .. α^(k-1)` (R299, R301). -/
def Obligations.PolyCoefficients : Prop :=
  ∀ (a b : Poly) (c : Byte) (n d k : Nat), polyHeld a → polyHeld b →
    polyCoef (padd a b) d = polyCoef a d ^^^ polyCoef b d ∧ polyCoef (pscale a c) d = gmul (polyCoef a d) c ∧
    polyCoef (pmono n c) d = (if d = n then c else 0#8) ∧
    (pgen k).length = k + 1 ∧ polyLead (pgen k) = 1#8 ∧ ∀ i, i < k → peval (pgen k) (gexp i) = 0#8

/-- P_MUL and P_MULMONO run whenever the product has at most 256 coefficients, which is when a factor is 0 or the lengths fit,
and otherwise raise PolyOverflow(0); the product's value at every point is the product of the values (R294, R296, R301). Each reports
the first check that fails, P_MULMONO that of ARG0, then that of ARG1, then the overflow (60_exceptions.md R474, R475). -/
def Obligations.PolyProducts : Prop :=
  ∀ (s : State) (rd rs1 rs2 : PReg),
    (polyHeld (s.getPoly rs1) → polyHeld (s.getPoly rs2) →
      (if s.getPoly rs1 = [0#8] ∨ s.getPoly rs2 = [0#8] ∨ (s.getPoly rs1).length + (s.getPoly rs2).length - 1 ≤ 256 then
        ∃ p, exec (.pMul rd rs1 rs2) s = .next (s.putPoly rd p).successEnd ∧ polyHeld p ∧
          ∀ x, peval p x = gmul (peval (s.getPoly rs1) x) (peval (s.getPoly rs2) x)
       else exec (.pMul rd rs1 rs2) s = .next (s.errorEnd ⟨.polyOverflow, 0#8⟩)) ∧
      (s.argv 0 ≤ 255 → s.argv 1 ≤ 255 →
        if s.getPoly rs1 = [0#8] ∨ s.argv 1 = 0 ∨ (s.getPoly rs1).length + s.argv 0 ≤ 256 then
          ∃ p, exec (.pMulmono rd rs1) s = .next (s.putPoly rd p).successEnd ∧ polyHeld p ∧
            ∀ x, peval p x = gmul (peval (s.getPoly rs1) x) (gmul (s.argByte 1) (gpow x (s.argv 0)))
        else exec (.pMulmono rd rs1) s = .next (s.errorEnd ⟨.polyOverflow, 0#8⟩))) ∧
    s.reportsErrors (.pMul rd rs1 rs2) ∧ s.reportsErrors (.pMulmono rd rs1)

/-- P_REM divides: for a divisor that is not 0 it runs, and there is a quotient such that the remainder is 0 or of lower degree than
the divisor and the dividend is the quotient times the divisor plus the remainder, at every point; a divisor 0 raises
DivideByZero(0) (R297, R301). -/
def Obligations.PolyRemainder : Prop :=
  ∀ (s : State) (rd rs1 rs2 : PReg), polyHeld (s.getPoly rs1) → polyHeld (s.getPoly rs2) →
    (s.getPoly rs2 ≠ [0#8] →
      ∃ q r : Poly, exec (.pRem rd rs1 rs2) s = .next (s.putPoly rd r).successEnd ∧ polyHeld r ∧
        (r = [0#8] ∨ r.length < (s.getPoly rs2).length) ∧
        (q = [] ∨ q.length + (s.getPoly rs2).length ≤ (s.getPoly rs1).length + 1) ∧
        ∀ x, peval (s.getPoly rs1) x = gadd (gmul (peval q x) (peval (s.getPoly rs2) x)) (peval r x)) ∧
    (s.getPoly rs2 = [0#8] → exec (.pRem rd rs1 rs2) s = .next (s.errorEnd ⟨.divideByZero, 0#8⟩))

/-- P_EUCLID runs on every pair for which the algorithm of R300 finds Λ and Ω, reads both sources before it writes, and its result
has `Λ(0) = 1`, `2·deg Ω < R` and `Λ·b ≡ Ω (mod a)`, where `a` is the operand of larger degree (R300, R301). With `R = 0` it raises
RsUndecodable(1). In every other case it completes or raises RsUndecodable(2), the latter with a `t` of zero constant term that solves
the key equation within the same bounds. -/
def Obligations.PolyEuclid : Prop :=
  ∀ (s : State) (rd rd2 rs1 rs2 : PReg), rd ≠ rd2 → polyHeld (s.getPoly rs1) → polyHeld (s.getPoly rs2) →
    let swap := decide (polyDeg (s.getPoly rs1) < polyDeg (s.getPoly rs2))
    let a := if swap then s.getPoly rs2 else s.getPoly rs1
    let b := if swap then s.getPoly rs1 else s.getPoly rs2
    (∀ (lam omega : Poly) (steps : Nat), euclid (s.getPoly rs1) (s.getPoly rs2) (s.argv 0) = .ok (lam, omega, steps) →
      exec (.pEuclid rd rd2 rs1 rs2) s =
        .next ((((s.setPoly rd lam).setPoly rd2 omega).setResNat 0 (lam.length - 1)).setResNat 1 steps).successEnd ∧
      polyHeld lam ∧ polyHeld omega ∧ polyCoef lam 0 = 1#8 ∧ 2 * polyDeg omega < s.argv 0 ∧ keyEquation a b lam omega ∧
      (lam = [1#8] ∨ 2 * polyDeg lam + s.argv 0 ≤ 2 * polyDeg a)) ∧
    (s.argv 0 = 0 → exec (.pEuclid rd rd2 rs1 rs2) s = .next (s.errorEnd ⟨.rsUndecodable, 1#8⟩)) ∧
    (s.argv 0 ≠ 0 →
      (∃ lam omega steps, euclid (s.getPoly rs1) (s.getPoly rs2) (s.argv 0) = .ok (lam, omega, steps)) ∨
      (exec (.pEuclid rd rd2 rs1 rs2) s = .next (s.errorEnd ⟨.rsUndecodable, 2#8⟩) ∧
        ∃ t r : Poly, polyHeld t ∧ t ≠ [0#8] ∧ polyHeld r ∧ polyCoef t 0 = 0#8 ∧ 2 * polyDeg r < s.argv 0 ∧
          keyEquation a b t r ∧ 2 * polyDeg t + s.argv 0 ≤ 2 * polyDeg a))

/-! ### Reed–Solomon -/

/-- RS_ENCODE runs whenever its operands pass, writes exactly `k` bytes, and the data with them is a codeword: every syndrome
is 0 (45_rs.md R334, R332). Otherwise it reports the first check that fails (60_exceptions.md R474, R475). -/
def Obligations.RsEncodeMakesCodeword : Prop :=
  ∀ s : State,
    (s.argv 2 ≤ 30 → s.argv 1 + s.argv 2 ≤ 255 → s.argv 0 + s.argv 1 ≤ 4096 → s.argv 3 + s.argv 2 ≤ 4096 →
      ∃ p : List Byte, p.length = s.argv 2 ∧
        exec .rsEncode s = .next ((s.memWrite (s.argv 3) p).setRes 0 s.arg[2]).successEnd ∧
        ∀ i, i < s.argv 2 → peval (s.memRead (s.argv 0) (s.argv 1) ++ p) (gexp i) = 0#8) ∧
    s.reportsErrors .rsEncode

/-- RS_SYNDROME runs whenever its operands pass: byte `i` of the destination is `c(α^i)`, and RES0 says whether one is not 0
(R332, R335). Otherwise it reports the first check that fails (60_exceptions.md R474, R475). -/
def Obligations.RsSyndromeResult : Prop :=
  ∀ s : State,
    (1 ≤ s.argv 1 → s.argv 1 ≤ 255 → s.argv 2 ≤ 30 → s.argv 0 + s.argv 1 ≤ 4096 → s.argv 3 + s.argv 2 ≤ 4096 →
      ∃ t, exec .rsSyndrome s = .next t ∧ t.status.err = s.status.err ∧
        (∀ i, i < s.argv 2 →
          Memory.read t.dram (s.argv 3 + i) = peval (s.memRead (s.argv 0) (s.argv 1)) (gexp i)) ∧
        (∀ a, (a < s.argv 3 ∨ s.argv 3 + s.argv 2 ≤ a) → Memory.read t.dram a = Memory.read s.dram a) ∧
        (t.res[0] = if ∃ i, i < s.argv 2 ∧ peval (s.memRead (s.argv 0) (s.argv 1)) (gexp i) ≠ 0#8 then 1#32 else 0#32)) ∧
    s.reportsErrors .rsSyndrome

/-- RS_DECODE corrects: a word that differs from a codeword in at most `⌊k/2⌋` bytes is replaced by the codeword, RES0 is the number
of wrong bytes and RES1 is 1 exactly when there is one (R338); so a codeword is left as it is. On every word the decoding function corrects, it rewrites the word in
place at its own length, in at most RES0 bytes (R336, R337); where that function raises, it raises RsUndecodable with detail 2, 3
or 4; otherwise it reports the first check that fails (60_exceptions.md R474, R475). -/
def Obligations.RsDecodeResult : Prop :=
  ∀ s : State,
    (1 ≤ s.argv 1 → s.argv 1 ≤ 255 → s.argv 2 ≤ 30 → s.argv 0 + s.argv 1 ≤ 4096 →
      let c := s.memRead (s.argv 0) (s.argv 1)
      let wrong := fun w : List Byte => (List.range (s.argv 1)).countP fun j => w.getD j 0#8 != c.getD j 0#8
      (∀ w : List Byte, w.length = s.argv 1 → (∀ i, i < s.argv 2 → peval w (gexp i) = 0#8) → wrong w ≤ s.argv 2 / 2 →
        exec .rsDecode s = .next (((s.memWrite (s.argv 0) w).setResNat 0 (wrong w)).setResNat 1
          (if wrong w = 0 then 0 else 1)).successEnd) ∧
      ((∀ i, i < s.argv 2 → peval c (gexp i) = 0#8) →
        ∃ t, exec .rsDecode s = .next t ∧ t.res[0] = 0#32 ∧ t.res[1] = 0#32 ∧
          ∀ a, Memory.read t.dram a = Memory.read s.dram a) ∧
      (∀ (out : List Byte) (n f : Nat), rsDecode c (s.argv 2) = .ok (out, n, f) →
        exec .rsDecode s = .next (((s.memWrite (s.argv 0) out).setResNat 0 n).setResNat 1 f).successEnd ∧
        out.length = s.argv 1 ∧ wrong out ≤ n) ∧
      (∀ e, rsDecode c (s.argv 2) = .error e →
        exec .rsDecode s = .next (s.errorEnd e) ∧ e.kind = .rsUndecodable ∧ 2 ≤ e.info.toNat ∧ e.info.toNat ≤ 4)) ∧
    s.reportsErrors .rsDecode

/-! ### The matrix -/

/-- Coordinates: −dim ≤ c < dim, a negative one counted back from the far edge; with no matrix none resolves (30_encoding.md
R125). -/
def Obligations.CoordinateResolution : Prop :=
  ∀ (c : Word) (dim x : Nat), dim ≤ 256 →
    (resolve c dim = some x ↔ x < dim ∧ (c = BitVec.ofNat 32 x ∨ c = BitVec.ofInt 32 ((x : Int) - dim)))

/-- M_GET reports the addressed cell, M_SET writes it, and M_RECT writes every cell of the rectangle that lies in the window, and no
other plane bit, for every coordinate that resolves; each checks x, then y, then the code (41_matrix.md R181 to R184,
60_exceptions.md R474, R475). -/
def Obligations.MatrixCellCommands : Prop :=
  ∀ s : State, s.height ≤ 256 → s.width ≤ 256 →
    (∀ x0 y0, resolve s.arg[0] s.width = some x0 → resolve s.arg[1] s.height = some y0 →
      exec .mGet s = .next (s.setResNat 0 (s.cellcode x0 y0)).successEnd ∧
      (s.argv 2 ≤ 2 →
        ∃ t, exec .mSet s = .next t ∧ t.status.err = s.status.err ∧
          ∀ x y,
            if s.argv 2 ≠ 0 ∧ x = x0 ∧ y = y0 then t.cellcode x y = s.argv 2
            else Plane.get t.dplane x y = Plane.get s.dplane x y ∧ Plane.get t.vplane x y = Plane.get s.vplane x y) ∧
      (2 < s.argv 2 → exec .mSet s = .next (s.errorEnd ⟨.operandRange, 2#8⟩)) ∧
      (s.argv 4 ≤ 2 →
        ∃ t, exec .mRect s = .next t ∧ t.status.err = s.status.err ∧
          ∀ x y,
            if s.argv 4 ≠ 0 ∧ x0 ≤ x ∧ x < x0 + s.argv 2 ∧ x < s.width ∧ y0 ≤ y ∧ y < y0 + s.argv 3 ∧ y < s.height then
              t.cellcode x y = s.argv 4
            else Plane.get t.dplane x y = Plane.get s.dplane x y ∧ Plane.get t.vplane x y = Plane.get s.vplane x y)) ∧
    (resolve s.arg[0] s.width = none → exec .mSet s = .next (s.errorEnd ⟨.outOfBounds, 0#8⟩)) ∧
    (resolve s.arg[0] s.width ≠ none → resolve s.arg[1] s.height = none →
      exec .mSet s = .next (s.errorEnd ⟨.outOfBounds, 1#8⟩)) ∧
    s.reportsErrors .mGet ∧ s.reportsErrors .mSet ∧ s.reportsErrors .mRect

/-- M_NEGATE runs in every state, defines every cell of the window and inverts its V bit; M_ASSERT_DRAWN ends successfully
exactly when every cell is defined (R185, R186). -/
def Obligations.MatrixNegateAndAssert : Prop :=
  ∀ s : State, s.height ≤ 256 → s.width ≤ 256 →
    (∃ t, exec .mNegate s = .next t ∧ t.status.err = s.status.err ∧
      ∀ x y, x < s.width → y < s.height →
        Plane.get t.dplane x y = true ∧ Plane.get t.vplane x y = !Plane.get s.vplane x y) ∧
    ((∀ x y, x < s.width → y < s.height → Plane.get s.dplane x y = true) → exec .mAssertDrawn s = .next s.successEnd) ∧
    ((∃ x y, x < s.width ∧ y < s.height ∧ Plane.get s.dplane x y = false) →
      exec .mAssertDrawn s = .next (s.errorEnd ⟨.layoutMismatch, 1#8⟩))

/-- M_NEW, M_TRANSPOSE and M_BORDER run on every operand their rules accept: a new matrix is all unset, each cell of a transposed or
bordered matrix comes from the cell the rule names, the frame is of the colour asked for, and RSV is cleared (R180, R187,
R188); M_NEW and M_BORDER otherwise report the first check that fails (60_exceptions.md R474, R475). -/
def Obligations.MatrixNewTransposeBorder : Prop :=
  ∀ s : State, s.height ≤ 256 → s.width ≤ 256 →
    (1 ≤ s.argv 0 → s.argv 0 ≤ 256 → 1 ≤ s.argv 1 → s.argv 1 ≤ 256 →
      ∃ t, exec .mNew s = .next t ∧ t.status.err = s.status.err ∧ t.height = s.argv 0 ∧ t.width = s.argv 1 ∧
        t.dplane = 0#65536 ∧ t.vplane = 0#65536 ∧ t.rplane = 0#65536) ∧
    (∃ t, exec .mTranspose s = .next t ∧ t.status.err = s.status.err ∧ t.height = s.width ∧ t.width = s.height ∧
      t.rplane = 0#65536 ∧
      ∀ x y, x < s.height → y < s.width →
        Plane.get t.dplane x y = Plane.get s.dplane y x ∧ Plane.get t.vplane x y = Plane.get s.vplane y x) ∧
    (s.height + 2 * s.argv 0 ≤ 256 → s.width + 2 * s.argv 0 ≤ 256 → 1 ≤ s.argv 1 → s.argv 1 ≤ 2 →
      ∃ t, exec .mBorder s = .next t ∧ t.status.err = s.status.err ∧ t.height = s.height + 2 * s.argv 0 ∧
        t.width = s.width + 2 * s.argv 0 ∧ t.rplane = 0#65536 ∧
        (∀ x y, x < s.width → y < s.height →
          Plane.get t.dplane (x + s.argv 0) (y + s.argv 0) = Plane.get s.dplane x y ∧
          Plane.get t.vplane (x + s.argv 0) (y + s.argv 0) = Plane.get s.vplane x y) ∧
        (∀ x y, x < t.width → y < t.height →
          ¬ (s.argv 0 ≤ x ∧ x < s.argv 0 + s.width ∧ s.argv 0 ≤ y ∧ y < s.argv 0 + s.height) →
            t.cellcode x y = s.argv 1)) ∧
    s.reportsErrors .mNew ∧ s.reportsErrors .mBorder

/-- The matrix identities (R192): two M_TRANSPOSEs give back H, W and every cell, with RSV all 0; two M_NEGATEs give back every V bit
with every cell defined; M_SET with code 0 changes no cell, and M_GET returns the code M_SET wrote; M_POPCOUNT after M_NEGATE on a
drawn matrix is `H·W` less the earlier count. -/
def Obligations.MatrixIdentities : Prop :=
  ∀ s : State, s.height ≤ 256 → s.width ≤ 256 →
    (∃ t u, exec .mTranspose s = .next t ∧ exec .mTranspose t = .next u ∧ u.height = s.height ∧ u.width = s.width ∧
      u.rplane = 0#65536 ∧
      ∀ x y, x < s.width → y < s.height →
        Plane.get u.dplane x y = Plane.get s.dplane x y ∧ Plane.get u.vplane x y = Plane.get s.vplane x y) ∧
    (∃ t u, exec .mNegate s = .next t ∧ exec .mNegate t = .next u ∧ u.height = s.height ∧ u.width = s.width ∧
      ∀ x y, x < s.width → y < s.height →
        Plane.get u.dplane x y = true ∧ Plane.get u.vplane x y = Plane.get s.vplane x y) ∧
    (∀ t, exec .mSet s = .next t →
      (s.argv 2 = 0 → t.dplane = s.dplane ∧ t.vplane = s.vplane) ∧
      (s.status.err = false → t.status.err = false → s.argv 2 ≠ 0 →
        ∃ u, exec .mGet t = .next u ∧ u.status.err = false ∧ u.res[0] = s.arg[2])) ∧
    (s.drawn = true →
      ∃ t u v, exec .mPopcount s = .next t ∧ exec .mNegate t = .next u ∧ exec .mPopcount u = .next v ∧
        v.res[0].toNat + t.res[0].toNat = s.height * s.width)

/-- The counting commands run on every operand their rules accept (R189 to R191): M_POPCOUNT counts the dark cells of the
window, M_COUNT_PATTERN the windows of a row, M_COUNT_BOXES the one-coloured blocks below a row. The latter two otherwise report the
first check that fails (60_exceptions.md R474, R475). -/
def Obligations.MatrixCounts : Prop :=
  ∀ s : State,
    exec .mPopcount s = .next (s.setResNat 0 (countCells s.width s.height s.dark)).successEnd ∧
    (∀ y, resolve s.arg[0] s.height = some y → 1 ≤ s.argv 1 → s.argv 1 ≤ 31 → s.argv 2 < 2 ^ s.argv 1 →
      (s.argv 4 = 1 ∨ (s.argv 4 = 2 ∧ s.argv 3 < 2 ^ s.argv 1)) →
      exec .mCountPattern s = .next (s.setResNat 0 ((List.range (s.width + 1 - s.argv 1)).countP fun x =>
        s.rowWindow y (s.argv 1) x == s.argv 2 || (s.argv 4 == 2 && s.rowWindow y (s.argv 1) x == s.argv 3))).successEnd) ∧
    (∀ y, resolve s.arg[0] s.height = some y → y + 1 < s.height →
      exec .mCountBoxes s = .next (s.setResNat 0 ((List.range (s.width - 1)).countP fun x =>
        s.dark x y == s.dark (x + 1) y && s.dark x y == s.dark x (y + 1) && s.dark x y == s.dark (x + 1) (y + 1))).successEnd) ∧
    s.reportsErrors .mCountPattern ∧ s.reportsErrors .mCountBoxes

/-! ### Penalty -/

/-- M_PENALTY runs on every drawn matrix: RES0 is the whole penalty, RES1 to RES3 its parts P1, P2, P3, and what is left of RES0 is P4;
P4 is at most 100, is 100 for a matrix of one colour and 0 when strictly between 45 % and 55 % of the cells are dark
(47_mask_zigzag.md R423 to R428). On any other matrix it reports the first check that fails (60_exceptions.md R474, R475). -/
def Obligations.PenaltyResult : Prop :=
  ∀ s : State,
    (1 ≤ s.height → 1 ≤ s.width → s.drawn = true →
      (∃ t, exec .mPenalty s = .next t ∧ t.status.err = s.status.err ∧
        t.res[1] = BitVec.ofNat 32 (penalty1 s.height s.width s.dark) ∧
        t.res[2] = BitVec.ofNat 32 (penalty2 s.height s.width s.dark) ∧
        t.res[3] = BitVec.ofNat 32 (penalty3 s.height s.width s.dark) ∧
        t.res[0] = t.res[1] + t.res[2] + t.res[3] + BitVec.ofNat 32 (penalty4 s.height s.width s.dark)) ∧
      (let d := countCells s.width s.height s.dark
       let n := s.height * s.width
       let p := penalty4 s.height s.width s.dark
       p ≤ 100 ∧ ((d = 0 ∨ d = n) → p = 100) ∧ (45 * n < 100 * d → 100 * d < 55 * n → p = 0))) ∧
    s.reportsErrors .mPenalty

/-! ### Rendering -/

/-- NOP and S_STREAM_CANCEL run in every state; R_RAW and R_GIF run on every drawn matrix whose image fits, arm the stream at its first
byte and report its length (40_system.md R160, R161, 42_render.md R230, R232, R234), and otherwise report the first check that fails
(60_exceptions.md R474, R475). That SBPP keeps its value and that the mark
`stale` is cleared are the model's (log entries 5, 12). -/
def Obligations.SystemAndRenderResults : Prop :=
  ∀ s : State,
    exec .nop s = .next s.successEnd ∧
    exec .sStreamCancel s = .next (State.successEnd
      { s with stream := { s.stream with kind := .none, pos := 0#32, remain := 0#32, stale := false } }) ∧
    (1 ≤ s.height → 1 ≤ s.width → s.drawn = true → 1 ≤ s.argv 0 → s.argv 0 ≤ 1024 →
      ((s.argv 1 = 3 ∨ s.argv 1 = 4) → s.width * s.argv 0 * (s.height * s.argv 0) * s.argv 1 < 2 ^ 32 →
        exec .rRaw s = .next (State.successEnd
          { s with
            stream := ⟨.raw, s.argv 0, s.argv 1, 0#32,
              BitVec.ofNat 32 (s.width * s.argv 0 * (s.height * s.argv 0) * s.argv 1), false⟩
            res := s.res.set 0 (BitVec.ofNat 32 (s.width * s.argv 0 * (s.height * s.argv 0) * s.argv 1)) })) ∧
      (s.width * s.argv 0 ≤ 65535 → s.height * s.argv 0 ≤ 65535 → s.gifLen (s.argv 0) < 2 ^ 32 →
        exec .rGif s = .next (State.successEnd
          { s with
            stream := ⟨.gif, s.argv 0, s.stream.bpp, 0#32, BitVec.ofNat 32 (s.gifLen (s.argv 0)), false⟩
            res := s.res.set 0 (BitVec.ofNat 32 (s.gifLen (s.argv 0))) }))) ∧
    s.reportsErrors .rRaw ∧ s.reportsErrors .rGif

/-- Reading SDATA as often as there are bytes left in a fresh stream returns the whole sequence in order, each byte with bit 8
set, and leaves no stream armed (10_state.md R41, 42_render.md R233, R235 to R237). -/
def Obligations.StreamDeliversSequence : Prop :=
  ∀ s : State, s.Inv → s.status.busy = false → s.stream.kind ≠ .none → s.stream.pos = 0#32 → s.stream.stale = false →
    let r := s.sdataReads s.streamLength
    r.1 = s.outBytes.map (fun b => 0x100#32 ||| b.setWidth 32) ∧ r.2.stream.kind = .none ∧ r.2.stream.remain = 0#32 ∧
    (r.2.hostRead sdataOffset).rdata = 0#32

/-! ### BCH codes and the layout -/

/-- The B_* commands run on every operand their rules accept, and L_FORMAT_READ and L_VERSION_READ on every symbol whose copies decode
(46_layout_bch.md R372, R373, R376, R377, R389, R390); otherwise each reports the first check that fails, a pattern too far from
every code with the least distance found (60_exceptions.md R474, R475). -/
def Obligations.BchAndSymbolReadResults : Prop :=
  ∀ s : State,
    (s.argv 0 ≤ 3 → s.argv 1 ≤ 7 → exec .bFormat s = .next (s.setResNat 0 (fmtcode (s.argv 0) (s.argv 1))).successEnd) ∧
    (7 ≤ s.argv 0 → s.argv 0 ≤ 40 → exec .bVersion s = .next (s.setResNat 0 (vercode (s.argv 0))).successEnd) ∧
    (∀ e m d, s.argv 0 ≤ 0x7FFF → s.argv 1 ≤ 0x7FFF → fmtdecode (s.argv 0) (s.argv 1) = .ok ((e, m), d) →
      exec .bFormatDecode s = .next (((s.setResNat 0 e).setResNat 1 m).setResNat 2 d).successEnd) ∧
    (∀ v d, s.argv 0 ≤ 0x3FFFF → s.argv 1 ≤ 0x3FFFF → verdecode (s.argv 0) (s.argv 1) = .ok (v, d) →
      exec .bVersionDecode s = .next ((s.setResNat 0 v).setResNat 2 d).successEnd) ∧
    (s.height = s.width → isSymbolSize s.width = true →
      (∀ e m d, fmtdecode (s.readBits 15 fmt1) (s.readBits 15 (fmt2 s.width)) = .ok ((e, m), d) →
        exec .lFormatRead s = .next ((((s.setResNat 0 e).setResNat 1 m).setResNat 2 d).setResNat 3
          (s.readBits 15 fmt1 + 65536 * s.readBits 15 (fmt2 s.width))).successEnd) ∧
      (∀ v d, 45 ≤ s.width → verdecode (s.readBits 18 (ver1 s.width)) (s.readBits 18 (ver2 s.width)) = .ok (v, d) →
        exec .lVersionRead s = .next ((((s.setResNat 0 v).setResNat 1 (s.readBits 18 (ver1 s.width))).setResNat 2 d).setResNat 3
          (s.readBits 18 (ver2 s.width))).successEnd) ∧
      (s.width < 45 →
        exec .lVersionRead s = .next ((((s.setResNat 0 ((s.width - 17) / 4)).setResNat 1 0).setResNat 2 0).setResNat 3
          0).successEnd)) ∧
    ∀ i, (i = .bFormat ∨ i = .bVersion ∨ i = .bFormatDecode ∨ i = .bVersionDecode ∨ i = .lFormatRead ∨ i = .lVersionRead) →
      s.reportsErrors i

/-- The two nearest-codeword decoders correct up to three wrong bits in each copy and report the smaller number of them; and one copy
with up to three wrong bits is enough where no other code is as near to either copy (R370, R371, R374, R375). -/
def Obligations.BchDecodersCorrect : Prop :=
  (∀ e m c1 c2 : Nat, e ≤ 3 → m ≤ 7 → c1 < 2 ^ 15 → c2 < 2 ^ 15 →
    hammingDist (fmtcode e m) c1 ≤ 3 → hammingDist (fmtcode e m) c2 ≤ 3 →
      fmtdecode c1 c2 = .ok ((e, m), min (hammingDist (fmtcode e m) c1) (hammingDist (fmtcode e m) c2))) ∧
  (∀ e m c1 c2 : Nat, e ≤ 3 → m ≤ 7 → copyDist (fmtcode e m) c1 c2 ≤ 3 →
    (∀ e' m', e' ≤ 3 → m' ≤ 7 → (e', m') ≠ (e, m) → copyDist (fmtcode e m) c1 c2 < copyDist (fmtcode e' m') c1 c2) →
      fmtdecode c1 c2 = .ok ((e, m), copyDist (fmtcode e m) c1 c2)) ∧
  (∀ v c1 c2 : Nat, 7 ≤ v → v ≤ 40 → c1 < 2 ^ 18 → c2 < 2 ^ 18 →
    hammingDist (vercode v) c1 ≤ 3 → hammingDist (vercode v) c2 ≤ 3 →
      verdecode c1 c2 = .ok (v, min (hammingDist (vercode v) c1) (hammingDist (vercode v) c2))) ∧
  (∀ v c1 c2 : Nat, 7 ≤ v → v ≤ 40 → copyDist (vercode v) c1 c2 ≤ 3 →
    (∀ v', 7 ≤ v' → v' ≤ 40 → v' ≠ v → copyDist (vercode v) c1 c2 < copyDist (vercode v') c1 c2) →
      verdecode c1 c2 = .ok (v, copyDist (vercode v) c1 c2))

/-- The cells a template defines depend on the version alone: not on the ECC level, the mask, the test flag or the open parameter
VERSION_TEST_LIGHT (R382). -/
def Obligations.ReservationDependsOnVersion : Prop :=
  ∀ (v ecc mask : Nat) (test : Bool), (template v ecc mask test).d = rmap v

/-- L_TEMPLATE and L_RESERVE run on every operand their rules accept: the template is the matrix, its defined cells are RSV, and
RES1, or RES0, is the number of data modules (R387, R388). Otherwise each reports the first check that fails (60_exceptions.md R474,
R475). -/
def Obligations.TemplateResults : Prop :=
  ∀ s : State,
    (1 ≤ s.argv 0 → s.argv 0 ≤ 40 →
      (s.argv 1 ≤ 3 → s.argv 2 ≤ 7 → s.argv 3 ≤ 1 →
        ∃ t, exec .lTemplate s = .next t ∧ t.status.err = s.status.err ∧
          t.height = 17 + 4 * s.argv 0 ∧ t.width = 17 + 4 * s.argv 0 ∧
          t.dplane = (template (s.argv 0) (s.argv 1) (s.argv 2) (decide (s.argv 3 = 1))).d ∧
          t.vplane = (template (s.argv 0) (s.argv 1) (s.argv 2) (decide (s.argv 3 = 1))).v ∧
          t.rplane = t.dplane ∧ t.res[0] = BitVec.ofNat 32 (17 + 4 * s.argv 0) ∧
          t.res[1] = BitVec.ofNat 32 (countCells t.width t.height fun x y => t.cellcode x y == 0)) ∧
      (∃ t, exec .lReserve s = .next t ∧ t.status.err = s.status.err ∧ t.rplane = rmap (s.argv 0) ∧
        t.res[0] = BitVec.ofNat 32 (capacity (s.argv 0)))) ∧
    s.reportsErrors .lTemplate ∧ s.reportsErrors .lReserve

/-- The format information L_TEMPLATE draws is read back by L_FORMAT_READ, and the version by L_VERSION_READ, for every version,
level and mask; in test mode both format copies are drawn light (R385, R386, R389, R390). -/
def Obligations.TemplateReadsBack : Prop :=
  ∀ s t : State, 1 ≤ s.argv 0 → s.argv 0 ≤ 40 → s.argv 1 ≤ 3 → s.argv 2 ≤ 7 → exec .lTemplate s = .next t →
    (s.argv 3 = 0 →
      (∃ u, exec .lFormatRead t = .next u ∧ u.res[0] = s.arg[1] ∧ u.res[1] = s.arg[2] ∧ u.res[2] = 0#32) ∧
      (∃ u, exec .lVersionRead t = .next u ∧ u.res[0] = s.arg[0] ∧ u.res[2] = 0#32)) ∧
    (s.argv 3 = 1 → t.readBits 15 fmt1 = 0 ∧ t.readBits 15 (fmt2 t.width) = 0)

/-! ### Masks, drawing, reading -/

/-- L_MASK_BIT and L_MASK_APPLY run on every operand their rules accept; a mask is XORed into exactly the drawn cells of the window
that are not reserved, so applying it twice restores the matrix (47_mask_zigzag.md R420 to R422). Otherwise each reports the first
check that fails (60_exceptions.md R474, R475). -/
def Obligations.MaskResults : Prop :=
  ∀ s : State, s.height ≤ 256 → s.width ≤ 256 →
    (s.argv 0 ≤ 7 →
      (s.argv 1 ≤ 255 → s.argv 2 ≤ 255 →
        exec .lMaskBit s = .next (s.setResNat 0 (maskbit (s.argv 0) (s.argv 1) (s.argv 2)).toNat).successEnd) ∧
      ∃ t, exec .lMaskApply s = .next t ∧ t.status.err = s.status.err ∧ t.dplane = s.dplane ∧
        (∀ x y, Plane.get t.vplane x y =
          if x < s.width ∧ y < s.height ∧ Plane.get s.rplane x y = false ∧ Plane.get s.dplane x y = true then
            Plane.get s.vplane x y ^^ maskbit (s.argv 0) x y
          else Plane.get s.vplane x y) ∧
        ∃ u, exec .lMaskApply t = .next u ∧ u.dplane = s.dplane ∧ u.vplane = s.vplane ∧ u.rplane = s.rplane) ∧
    s.reportsErrors .lMaskBit ∧ s.reportsErrors .lMaskApply

/-- L_DRAW runs on every operand its rule accepts: a matrix with every cell defined, RSV the reservation map, RES0 the mask drawn with
and RES1 its score; every function module is that of the template of that mask with test 0, and the data modules hold the data bits in
order, the most significant of each byte first and then zeros, XORed with the mask (R429, R431, R432). Mask operand 8 selects the mask
of least trial score, the lowest among equals (R430). Otherwise it reports the first check that fails (60_exceptions.md R474,
R475). -/
def Obligations.DrawResult : Prop :=
  ∀ s : State,
    (1 ≤ s.argv 0 → s.argv 0 ≤ 40 → s.argv 1 ≤ 3 → s.argv 2 ≤ 8 → s.argv 3 + s.argv 4 ≤ 4096 →
      8 * s.argv 4 ≤ capacity (s.argv 0) →
      ∃ t m, exec .lDraw s = .next t ∧ t.status.err = s.status.err ∧ t.height = 17 + 4 * s.argv 0 ∧
        t.width = 17 + 4 * s.argv 0 ∧ t.rplane = rmap (s.argv 0) ∧ t.drawn = true ∧ m ≤ 7 ∧ t.res[0] = BitVec.ofNat 32 m ∧
        (∀ x y, Plane.get t.rplane x y = true →
          Plane.get t.vplane x y = Plane.get (template (s.argv 0) (s.argv 1) m false).v x y) ∧
        (∀ k c, (zz (s.argv 0))[k]? = some c →
          Plane.get t.vplane c.1 c.2 =
            ((decide (k < 8 * s.argv 4) && (Memory.read s.dram (s.argv 3 + k / 8)).getLsbD (7 - k % 8)) ^^ maskbit m c.1 c.2)) ∧
        (s.argv 2 ≤ 7 → m = s.argv 2 ∧ t.res[1] = 0#32) ∧
        (s.argv 2 = 8 →
          let score := trialScore (s.argv 0) (s.argv 1) (s.memRead (s.argv 3) (s.argv 4))
          t.res[1] = BitVec.ofNat 32 (score m) ∧ (∀ m', m' ≤ 7 → score m ≤ score m') ∧ ∀ m', m' < m → score m < score m')) ∧
    s.reportsErrors .lDraw

/-- L_READ runs on a symbol whose first `8·n` data modules are defined, and writes its `n` bytes from ARG2 on, the most significant bit
of each first, and no other byte (R432 to R434). Otherwise it reports the first check that fails (60_exceptions.md R474, R475). -/
def Obligations.ReadResult : Prop :=
  ∀ s : State,
    (1 ≤ s.argv 0 → s.argv 0 ≤ 40 → s.argv 1 ≤ 7 → s.height = 17 + 4 * s.argv 0 → s.width = 17 + 4 * s.argv 0 →
      s.argv 2 + s.argv 3 ≤ 4096 → 8 * s.argv 3 ≤ capacity (s.argv 0) →
      (∀ c ∈ (zz (s.argv 0)).take (8 * s.argv 3), Plane.get s.dplane c.1 c.2 = true) →
        ∃ t, exec .lRead s = .next t ∧ t.status.err = s.status.err ∧ t.res[0] = s.arg[3] ∧
          (∀ j, j < s.argv 3 → ∀ k : Nat, k < 8 → ∃ c, (zz (s.argv 0))[8 * j + k]? = some c ∧
            (Memory.read t.dram (s.argv 2 + j)).getLsbD (7 - k) =
              (Plane.get s.vplane c.1 c.2 ^^ maskbit (s.argv 1) c.1 c.2)) ∧
          (∀ a, (a < s.argv 2 ∨ s.argv 2 + s.argv 3 ≤ a) → Memory.read t.dram a = Memory.read s.dram a)) ∧
    s.reportsErrors .lRead

/-- Reading a symbol L_DRAW has just drawn, with the mask it reports, gives back the bytes it drew, for every version, level, mask
operand and byte count (R431, R434; QRSPEC's round trip). -/
def Obligations.DrawThenRead : Prop :=
  ∀ (s t : State) (dst : Word), 1 ≤ s.argv 0 → s.argv 0 ≤ 40 → s.argv 1 ≤ 3 → s.argv 2 ≤ 8 → s.argv 3 + s.argv 4 ≤ 4096 →
    8 * s.argv 4 ≤ capacity (s.argv 0) → dst.toNat + s.argv 4 ≤ 4096 → exec .lDraw s = .next t →
      ∃ u, exec .lRead { t with arg := ((t.arg.set 1 t.res[0]).set 2 dst).set 3 t.arg[4] } = .next u ∧
        ∀ j, j < s.argv 4 → Memory.read u.dram (dst.toNat + j) = Memory.read s.dram (s.argv 3 + j)

/-! ### The zig-zag sequencer -/

/-- The sequencer stops at a data cell or at the end of the walk: it never stops on a reserved cell while cells are left (R442). -/
def Obligations.SeekFindsDataCell : Prop :=
  ∀ s : State, s.cursorWf → s.cursor.valid = true →
    s.sought.done = true ∨ Plane.get s.rplane s.sought.cell.1 s.sought.cell.2 = false

/-- Z_START, Z_NEXT, Z_PUT and Z_GET run whenever their rules accept, and report the data cell they stop at (R443 to R446); otherwise
each reports the first check that fails (60_exceptions.md R474, R475). -/
def Obligations.SequencerResults : Prop :=
  ∀ s : State,
    (s.argv 0 ≤ 7 → s.height = s.width → isSymbolSize s.width = true →
      ∃ t, exec .zStart s = .next t ∧ t.status.err = s.status.err ∧ t.cursor.xo = s.width - 1 ∧ t.cursor.y = s.width - 1 ∧
        t.cursor.dir = .up ∧ t.cursor.j = false ∧ t.cursor.done = false ∧ t.cursor.valid = true ∧
        t.cursor.mask.val = s.argv 0) ∧
    (s.cursor.valid = true → s.sought.done = true →
      exec .zNext s = .next (State.setCursorRes { s with cursor := s.sought } 0 0 0 1).successEnd) ∧
    (s.cursor.valid = true → s.sought.done = false →
      exec .zNext s = .next (State.setCursorRes { s with cursor := s.sought.advance s.width }
        s.sought.cell.1 s.sought.cell.2 s.sought.maskAt.toNat 0).successEnd ∧
      (s.argv 0 ≤ 1 →
        exec .zPut s = .next (State.successEnd (State.cancelStream (State.setCursorRes
          { s.putbit s.sought.cell.1 s.sought.cell.2 (decide (s.argv 0 = 1) ^^ s.sought.maskAt) with
            cursor := s.sought.advance s.width }
          s.sought.cell.1 s.sought.cell.2 s.sought.maskAt.toNat (decide (s.argv 0 = 1) ^^ s.sought.maskAt).toNat)))) ∧
      (Plane.get s.dplane s.sought.cell.1 s.sought.cell.2 = true →
        exec .zGet s = .next (State.setCursorRes { s with cursor := s.sought.advance s.width }
          s.sought.cell.1 s.sought.cell.2 s.sought.maskAt.toNat
          (Plane.get s.vplane s.sought.cell.1 s.sought.cell.2 ^^ s.sought.maskAt).toNat).successEnd)) ∧
    ∀ i, (i = .zStart ∨ i = .zNext ∨ i = .zPut ∨ i = .zGet) → s.reportsErrors i

/-- The step function walks the cells of R440 in order: from the cursor Z_START sets, the candidate cells are `walk(s)`, which visits
each cell outside column 6 exactly once (R440, R441). -/
def Obligations.StepFunctionWalks : Prop :=
  ∀ (n : Nat) (m : Fin 8), isSymbolSize n = true →
    Cursor.cells n (walk n).length ⟨n - 1, n - 1, .up, false, false, true, m⟩ = walk n ∧ (walk n).Nodup ∧
    ∀ x y, (x, y) ∈ walk n ↔ x < n ∧ y < n ∧ x ≠ 6

/-- Z_NEXT lists the data modules: after Z_START on a matrix of a version's size whose RSV is the version's reservation map, Z_NEXT
reports `zz(v)` in order and then the end of the walk (R429, R440 to R444). -/
def Obligations.NextListsDataModules : Prop :=
  ∀ (s t : State) (v : Nat), 1 ≤ v → v ≤ 40 → s.height = 17 + 4 * v → s.width = 17 + 4 * v → s.rplane = rmap v →
    s.argv 0 ≤ 7 → exec .zStart s = .next t →
      t.nextCells (capacity v + 1) = zz v ∧ (zz v).length = capacity v

/-! ### What no command sees -/

/-- No command's result depends on plane bits outside the window (10_state.md R47), and none but M_NEGATE's on the V bit of an unset
cell (R46): two states that differ only there end alike, and differ afterwards only there. -/
def Obligations.UnseenPlaneBits : Prop :=
  ∀ (i : Instr) (s t : State), s.Inv → t.Inv →
    (s.SameInWindow t → ∃ s' t', exec i s = .next s' ∧ exec i t = .next t' ∧ s'.SameInWindow t') ∧
    (i ≠ .mNegate → s.SameCells t → ∃ s' t', exec i s = .next s' ∧ exec i t = .next t' ∧ s'.SameCells t')
end

