-- ==== Sys2Proof/Laws/Memory.lean ====
section
/-! SUPPORT. DRAM as a canonical list of cells: a write is read back, leaves every other byte alone and keeps the canonical
form. -/

namespace Sys2Proof.Machine

theorem Memory.lookup_append (m n : List Host.Cell) (x : Nat) :
    Memory.lookup (m ++ n) x = (Memory.lookup m x).or (Memory.lookup n x) := by
  induction m with
  | nil => rfl
  | cons c m ih => simp only [List.cons_append, Memory.lookup]; split <;> simp [ih]

theorem Memory.lookup_filter_of_true (p : Host.Cell → Bool) (m : List Host.Cell) (x : Nat)
    (h : ∀ c ∈ m, c.1 = x → p c = true) : Memory.lookup (m.filter p) x = Memory.lookup m x := by
  induction m with
  | nil => rfl
  | cons c m ih =>
    have hm := ih fun d hd => h d (List.mem_cons_of_mem _ hd)
    by_cases hx : c.1 = x
    · simp [h c List.mem_cons_self hx, Memory.lookup, hx]
    · by_cases hp : p c <;> simp [hp, Memory.lookup, hx, hm]

theorem Memory.lookup_filter_of_false (p : Host.Cell → Bool) (m : List Host.Cell) (x : Nat)
    (h : ∀ c ∈ m, c.1 = x → p c = false) : Memory.lookup (m.filter p) x = none := by
  induction m with
  | nil => rfl
  | cons c m ih =>
    have hm := ih fun d hd => h d (List.mem_cons_of_mem _ hd)
    by_cases hx : c.1 = x
    · simp [h c List.mem_cons_self hx, hm]
    · by_cases hp : p c <;> simp [hp, Memory.lookup, hx, hm]

theorem Memory.lookup_cellsFrom (bs : List Byte) (a x : Nat) :
    Memory.lookup (Memory.cellsFrom a bs) x = if a ≤ x then bs[x - a]? else none := by
  induction bs generalizing a with
  | nil => simp [Memory.cellsFrom, Memory.lookup]
  | cons b bs ih =>
    simp only [Memory.cellsFrom, Memory.lookup, ih]
    by_cases h : a = x
    · simp [h]
    · by_cases hx : a ≤ x
      · rw [if_neg h, if_pos (by omega), if_pos hx, show x - a = (x - (a + 1)) + 1 by omega, List.getElem?_cons_succ]
      · rw [if_neg h, if_neg (by omega), if_neg hx]

/-- What a byte holds after a write: the byte written there, else what it held. -/
theorem Memory.lookup_write (m : List Host.Cell) (a : Nat) (bs : List Byte) (x : Nat) :
    Memory.lookup (Memory.write m a bs) x = if a ≤ x ∧ x < a + bs.length then bs[x - a]? else Memory.lookup m x := by
  rw [Memory.write, Memory.lookup_append, Memory.lookup_append, Memory.lookup_cellsFrom]
  by_cases h1 : x < a
  · rw [Memory.lookup_filter_of_true _ _ _ (by intro c _ hc; simp; omega),
      Memory.lookup_filter_of_false _ _ _ (by intro c _ hc; simp; omega)]
    simp [show ¬ a ≤ x by omega]
  · rw [Memory.lookup_filter_of_false _ _ _ (by intro c _ hc; simp; omega)]
    by_cases h2 : x < a + bs.length
    · rw [Memory.lookup_filter_of_false _ _ _ (by intro c _ hc; simp; omega)]
      simp [show a ≤ x by omega, h2]
    · rw [Memory.lookup_filter_of_true _ _ _ (by intro c _ hc; simp; omega),
        List.getElem?_eq_none (by omega)]
      simp [h2]

theorem Memory.read_write (m : List Host.Cell) (a : Nat) (bs : List Byte) (x : Nat) :
    Memory.read (Memory.write m a bs) x =
      if a ≤ x ∧ x < a + bs.length then bs.getD (x - a) 0#8 else Memory.read m x := by
  unfold Memory.read
  rw [Memory.lookup_write]
  split
  · rw [List.getD_eq_getElem?_getD, List.getElem?_eq_getElem (by omega)]; rfl
  · rfl

/-- A byte outside the bytes written reads as before. -/
theorem Memory.read_write_of_outside (m : List Host.Cell) (a : Nat) (bs : List Byte) (x : Nat)
    (h : x < a ∨ a + bs.length ≤ x) : Memory.read (Memory.write m a bs) x = Memory.read m x := by
  rw [Memory.read_write, if_neg (by omega)]

/-- A byte written is read back. -/
theorem Memory.read_write_of_inside (m : List Host.Cell) (a : Nat) (bs : List Byte) (i : Nat) (h : i < bs.length) :
    Memory.read (Memory.write m a bs) (a + i) = bs[i] := by
  rw [Memory.read_write, if_pos (by omega), Nat.add_sub_cancel_left, List.getD_eq_getElem?_getD,
    List.getElem?_eq_getElem h]
  rfl

theorem Memory.wfFrom_mono {lo lo' : Nat} {m : List Host.Cell} (h : lo' ≤ lo) (hm : Memory.wfFrom lo m = true) :
    Memory.wfFrom lo' m = true := by
  cases m with
  | nil => rfl
  | cons c m =>
    simp only [Memory.wfFrom, Bool.and_eq_true, decide_eq_true_eq] at *
    exact ⟨⟨by omega, hm.1.2⟩, hm.2⟩

theorem Memory.wfFrom_le : ∀ (m : List Host.Cell) (lo : Nat), Memory.wfFrom lo m = true → ∀ d ∈ m, lo ≤ d.1
  | [], _, _, _, hd => by cases hd
  | c :: m, lo, h, d, hd => by
    simp only [Memory.wfFrom, Bool.and_eq_true, decide_eq_true_eq] at h
    rcases List.mem_cons.1 hd with rfl | hd
    · exact h.1.1
    · have := Memory.wfFrom_le m _ h.2 d hd; omega

theorem Memory.wfFrom_filter_ge (m : List Host.Cell) (lo b : Nat) (hm : Memory.wfFrom lo m = true) :
    Memory.wfFrom b (m.filter fun c => decide (b ≤ c.1)) = true := by
  induction m generalizing lo with
  | nil => rfl
  | cons c m ih =>
    simp only [Memory.wfFrom, Bool.and_eq_true, decide_eq_true_eq] at hm
    by_cases h : b ≤ c.1
    · simp only [List.filter_cons, h, decide_true, if_true, Memory.wfFrom, Bool.true_and, Bool.and_eq_true,
        decide_eq_true_eq]
      refine ⟨hm.1.2, ?_⟩
      have hall : (m.filter fun d => decide (b ≤ d.1)) = m := by
        refine List.filter_eq_self.2 fun d hd => ?_
        have : c.1 + 1 ≤ d.1 := Memory.wfFrom_le m _ hm.2 d hd
        simp; omega
      rw [hall]; exact hm.2
    · simp [h, ih _ hm.2]

theorem Memory.wfFrom_lt_append (m n : List Host.Cell) (lo a : Nat) (hm : Memory.wfFrom lo m = true)
    (hn : Memory.wfFrom a n = true) : Memory.wfFrom (min lo a) (m.filter (fun c => decide (c.1 < a)) ++ n) = true := by
  induction m generalizing lo with
  | nil => exact Memory.wfFrom_mono (Nat.min_le_right _ _) hn
  | cons c m ih =>
    simp only [Memory.wfFrom, Bool.and_eq_true, decide_eq_true_eq] at hm
    by_cases h : c.1 < a
    · simp only [List.filter_cons, h, decide_true, if_true, List.cons_append, Memory.wfFrom, Bool.and_eq_true,
        decide_eq_true_eq]
      refine ⟨⟨by omega, hm.1.2⟩, ?_⟩
      have := ih _ hm.2
      rwa [Nat.min_eq_left (by omega)] at this
    · simp only [List.filter_cons, h, decide_false]
      exact Memory.wfFrom_mono (by omega) (ih _ hm.2)

theorem Memory.wfFrom_cellsFrom_append (bs : List Byte) (a : Nat) (n : List Host.Cell)
    (hb : a + bs.length ≤ Config.dramBytes) (hn : Memory.wfFrom (a + bs.length) n = true) :
    Memory.wfFrom a (Memory.cellsFrom a bs ++ n) = true := by
  induction bs generalizing a with
  | nil => simpa [Memory.cellsFrom] using hn
  | cons b bs ih =>
    simp only [List.length_cons] at hb hn
    simp only [Memory.cellsFrom, List.cons_append, Memory.wfFrom, Bool.and_eq_true, decide_eq_true_eq]
    exact ⟨⟨Nat.le_refl _, by omega⟩, ih (a + 1) (by omega) (by rwa [show a + 1 + bs.length = a + (bs.length + 1) by omega])⟩

/-- A write inside DRAM keeps the canonical form. -/
theorem Memory.wf_write (m : List Host.Cell) (a : Nat) (bs : List Byte) (hm : Memory.wf m = true)
    (hb : a + bs.length ≤ Config.dramBytes) : Memory.wf (Memory.write m a bs) = true := by
  rw [Memory.wf, Memory.write, List.append_assoc]
  exact Memory.wfFrom_mono (Nat.zero_le _) (Memory.wfFrom_lt_append m _ 0 a hm
    (Memory.wfFrom_cellsFrom_append bs a _ hb (Memory.wfFrom_filter_ge m 0 _ hm)))

/-- A write of no byte keeps the canonical form, wherever it is. -/
theorem Memory.wf_write_nil (m : List Host.Cell) (a : Nat) (hm : Memory.wf m = true) :
    Memory.wf (Memory.write m a []) = true := by
  rw [Memory.wf, Memory.write, List.append_assoc]
  exact Memory.wfFrom_mono (Nat.zero_le _)
    (Memory.wfFrom_lt_append m _ 0 a hm (by simpa [Memory.cellsFrom] using Memory.wfFrom_filter_ge m 0 a hm))

theorem Memory.lookup_none_of_lt : ∀ (m : List Host.Cell) (lo : Nat), Memory.wfFrom lo m = true → ∀ x, x < lo →
    Memory.lookup m x = none
  | [], _, _, _, _ => rfl
  | c :: m, lo, h, x, hx => by
    simp only [Memory.wfFrom, Bool.and_eq_true, decide_eq_true_eq] at h
    rw [Memory.lookup, if_neg (by omega)]
    exact Memory.lookup_none_of_lt m _ h.2 x (by omega)

/-- Two canonical memories that hold the same bytes at every address are the same list. -/
theorem Memory.wf_ext (m n : List Host.Cell) (lo : Nat) (hm : Memory.wfFrom lo m = true) (hn : Memory.wfFrom lo n = true)
    (h : ∀ x, Memory.lookup m x = Memory.lookup n x) : m = n := by
  induction m generalizing n lo with
  | nil =>
    cases n with
    | nil => rfl
    | cons d n => have := h d.1; simp [Memory.lookup] at this
  | cons c m ih =>
    simp only [Memory.wfFrom, Bool.and_eq_true, decide_eq_true_eq] at hm
    cases n with
    | nil => have := h c.1; simp [Memory.lookup] at this
    | cons d n =>
      simp only [Memory.wfFrom, Bool.and_eq_true, decide_eq_true_eq] at hn
      have hmc : ∀ x, x ≤ c.1 → Memory.lookup m x = none := fun x hx =>
        Memory.lookup_none_of_lt m _ hm.2 x (by omega)
      have hnd : ∀ x, x ≤ d.1 → Memory.lookup n x = none := fun x hx =>
        Memory.lookup_none_of_lt n _ hn.2 x (by omega)
      have hcd : c.1 = d.1 := by
        by_cases hlt : c.1 = d.1
        · exact hlt
        · rcases Nat.lt_or_gt_of_ne hlt with hlt | hlt
          · have := h c.1
            rw [Memory.lookup, Memory.lookup, if_pos rfl, if_neg (by omega), hnd _ (by omega)] at this
            cases this
          · have := h d.1
            rw [Memory.lookup, Memory.lookup, if_pos rfl, if_neg (by omega), hmc _ (by omega)] at this
            cases this
      have h2 : c.2 = d.2 := by
        have := h c.1
        rw [Memory.lookup, Memory.lookup, if_pos rfl, if_pos hcd.symm] at this
        exact Option.some.inj this
      have htl : m = n := by
        refine ih n (c.1 + 1) hm.2 (hcd ▸ hn.2) fun x => ?_
        by_cases hx : x ≤ c.1
        · rw [hmc x hx, hnd x (by omega)]
        · have := h x
          rwa [Memory.lookup, Memory.lookup, if_neg (by omega), if_neg (by omega)] at this
      rw [htl, show c = d from Prod.ext hcd h2]

/-! ### The state's reads and writes -/

theorem State.memRead_length (s : State) (a n : Nat) : (s.memRead a n).length = n := by simp [State.memRead]

theorem State.memRead_getElem (s : State) (a n i : Nat) (h : i < (s.memRead a n).length) :
    (s.memRead a n)[i] = Memory.read s.dram (a + i) := by simp [State.memRead]

/-- A range just written reads back. -/
theorem State.memRead_memWrite (s : State) (a : Nat) (bs : List Byte) :
    (s.memWrite a bs).memRead a bs.length = bs := by
  refine List.ext_getElem (by simp [State.memRead]) fun i h1 h2 => ?_
  rw [State.memRead_getElem]
  exact Memory.read_write_of_inside s.dram a bs i h2

end Sys2Proof.Machine
end

