-- ==== Sys2Proof/Laws/PerInstr.lean ====
section
/-! SUPPORT. The statement made of every command as syntax, one lemma per constructor: its word has an opcode of the map and no bit
above its register fields (30_encoding.md R121, R122, R133). -/

namespace Sys2Proof.Laws.EncodedRow

/-- The command's word selects a row of the opcode map and leaves bits 31 to 23 zero (R121, R122). -/
def Statement (i : Instr) : Prop := (rowOf (encode i)).isSome = true ∧ (encode i).toNat < 2 ^ 23

theorem nop : Statement .nop := by unfold Statement; decide
theorem sStreamCancel : Statement .sStreamCancel := by unfold Statement; decide
theorem gfAdd : Statement .gfAdd := by unfold Statement; decide
theorem gfMul : Statement .gfMul := by unfold Statement; decide
theorem gfInv : Statement .gfInv := by unfold Statement; decide
theorem gfPow : Statement .gfPow := by unfold Statement; decide
theorem gfExp : Statement .gfExp := by unfold Statement; decide
theorem gfLog : Statement .gfLog := by unfold Statement; decide
theorem pLoad (a : PReg) : Statement (.pLoad a) := by unfold Statement; revert a; decide +kernel
theorem pStore (a : PReg) : Statement (.pStore a) := by unfold Statement; revert a; decide +kernel
theorem pMono (a : PReg) : Statement (.pMono a) := by unfold Statement; revert a; decide +kernel
theorem pAdd (a b c : PReg) : Statement (.pAdd a b c) := by unfold Statement; revert a b c; decide +kernel
theorem pMul (a b c : PReg) : Statement (.pMul a b c) := by unfold Statement; revert a b c; decide +kernel
theorem pScale (a b : PReg) : Statement (.pScale a b) := by unfold Statement; revert a b; decide +kernel
theorem pMulmono (a b : PReg) : Statement (.pMulmono a b) := by unfold Statement; revert a b; decide +kernel
theorem pRem (a b c : PReg) : Statement (.pRem a b c) := by unfold Statement; revert a b c; decide +kernel
theorem pEval (a : PReg) : Statement (.pEval a) := by unfold Statement; revert a; decide +kernel
theorem pGen (a : PReg) : Statement (.pGen a) := by unfold Statement; revert a; decide +kernel
theorem pEuclid (a b c d : PReg) : Statement (.pEuclid a b c d) := by unfold Statement; revert a b c d; decide +kernel
theorem rsEncode : Statement .rsEncode := by unfold Statement; decide
theorem rsSyndrome : Statement .rsSyndrome := by unfold Statement; decide
theorem rsDecode : Statement .rsDecode := by unfold Statement; decide
theorem mNew : Statement .mNew := by unfold Statement; decide
theorem mSet : Statement .mSet := by unfold Statement; decide
theorem mGet : Statement .mGet := by unfold Statement; decide
theorem mRect : Statement .mRect := by unfold Statement; decide
theorem mNegate : Statement .mNegate := by unfold Statement; decide
theorem mTranspose : Statement .mTranspose := by unfold Statement; decide
theorem mBorder : Statement .mBorder := by unfold Statement; decide
theorem mPopcount : Statement .mPopcount := by unfold Statement; decide
theorem mCountPattern : Statement .mCountPattern := by unfold Statement; decide
theorem mCountBoxes : Statement .mCountBoxes := by unfold Statement; decide
theorem mAssertDrawn : Statement .mAssertDrawn := by unfold Statement; decide
theorem mPenalty : Statement .mPenalty := by unfold Statement; decide
theorem rRaw : Statement .rRaw := by unfold Statement; decide
theorem rGif : Statement .rGif := by unfold Statement; decide
theorem bFormat : Statement .bFormat := by unfold Statement; decide
theorem bVersion : Statement .bVersion := by unfold Statement; decide
theorem bFormatDecode : Statement .bFormatDecode := by unfold Statement; decide
theorem bVersionDecode : Statement .bVersionDecode := by unfold Statement; decide
theorem lTemplate : Statement .lTemplate := by unfold Statement; decide
theorem lReserve : Statement .lReserve := by unfold Statement; decide
theorem lFormatRead : Statement .lFormatRead := by unfold Statement; decide
theorem lVersionRead : Statement .lVersionRead := by unfold Statement; decide
theorem lDraw : Statement .lDraw := by unfold Statement; decide
theorem lRead : Statement .lRead := by unfold Statement; decide
theorem zStart : Statement .zStart := by unfold Statement; decide
theorem zNext : Statement .zNext := by unfold Statement; decide
theorem zPut : Statement .zPut := by unfold Statement; decide
theorem zGet : Statement .zGet := by unfold Statement; decide
theorem lMaskApply : Statement .lMaskApply := by unfold Statement; decide
theorem lMaskBit : Statement .lMaskBit := by unfold Statement; decide

end Sys2Proof.Laws.EncodedRow
end

