-- ==== Sys2Proof/Laws/Plane.lean ====
section
/-! SUPPORT. Bit planes: what `get` reads after `set`, `ofWindow` and `mergeOn`, and that a plane is its bits. -/

namespace Sys2Proof.Machine

theorem rowBits_lt (n : Nat) (f : Nat → Bool) : rowBits n f < 2 ^ n := by
  induction n with
  | zero => simp [rowBits]
  | succ n ih =>
    rw [rowBits]
    refine Nat.or_lt_two_pow (Nat.lt_trans ih (Nat.pow_lt_pow_right (by omega) (by omega))) ?_
    rw [Nat.shiftLeft_eq, Nat.pow_succ, Nat.mul_comm]
    have : (f n).toNat ≤ 1 := Bool.toNat_le (f n)
    have h2 : 0 < 2 ^ n := Nat.two_pow_pos n
    exact Nat.mul_lt_mul_of_le_of_lt' (Nat.le_refl _) (by omega) h2

theorem testBit_bool_shiftLeft (b : Bool) (n i : Nat) : (b.toNat <<< n).testBit i = (decide (i = n) && b) := by
  rw [Nat.testBit_shiftLeft]
  by_cases h : i = n
  · subst h; cases b <;> simp
  · by_cases hlt : n ≤ i
    · obtain ⟨k, hk⟩ : ∃ k, i - n = k + 1 := ⟨i - n - 1, by omega⟩
      cases b <;> simp [h, hk, Nat.testBit_succ]
    · simp [h, hlt]

theorem rowBits_testBit (n : Nat) (f : Nat → Bool) (i : Nat) : (rowBits n f).testBit i = (decide (i < n) && f i) := by
  induction n with
  | zero => simp [rowBits]
  | succ n ih =>
    rw [rowBits, Nat.testBit_or, ih, testBit_bool_shiftLeft]
    by_cases h : i = n
    · subst h; simp
    · simp only [h, decide_false, Bool.false_and, Bool.or_false]
      congr 1
      simp; omega

theorem gridBits_testBit (h w : Nat) (f : Nat → Nat → Bool) (x y : Nat) (hw : w ≤ 256) (hx : x < 256) :
    (gridBits h w f).testBit (256 * y + x) = (decide (y < h) && (decide (x < w) && f x y)) := by
  induction h with
  | zero => simp [gridBits]
  | succ h ih =>
    rw [gridBits, Nat.testBit_or, ih, Nat.testBit_shiftLeft, rowBits_testBit]
    rcases Nat.lt_trichotomy y h with hlt | rfl | hgt
    · simp [hlt, show ¬ 256 * h ≤ 256 * y + x by omega, show y < h + 1 by omega]
    · simp
    · have h1 : ¬ (256 * y + x - 256 * h < w) := by omega
      simp [h1, show ¬ y < h by omega, show ¬ y < h + 1 by omega]

/-- Each bit of a plane built from a function (`Plane.ofWindow`). -/
theorem Plane.get_ofWindow (w h : Nat) (f : Nat → Nat → Bool) (x y : Nat) :
    Plane.get (Plane.ofWindow w h f) x y = (decide (x < w ∧ y < h ∧ x < 256 ∧ y < 256) && f x y) := by
  unfold Plane.get Plane.ofWindow
  by_cases hx : x < 256
  · rw [BitVec.getLsbD_ofNat, gridBits_testBit _ _ _ _ _ (Nat.min_le_right _ _) hx]
    by_cases hy : y < 256
    · rw [show decide (y < min h 256) = decide (y < h) by simp; omega,
        show decide (x < min w 256) = decide (x < w) by simp; omega]
      simp [hx, hy, show 256 * y + x < 65536 by omega, ← Bool.and_assoc, Bool.and_comm]
    · simp [hx, hy, show ¬ 256 * y + x < 65536 by omega]
  · simp [hx]

theorem Plane.one_shiftLeft_getLsbD (n i : Nat) : (1#65536 <<< n).getLsbD i = (decide (i = n) && decide (n < 65536)) := by
  rw [BitVec.getLsbD_shiftLeft, BitVec.getLsbD_one]
  by_cases h : i = n
  · subst h; simp
  · simp only [h, decide_false, Bool.false_and]
    by_cases h1 : i < n
    · simp [h1]
    · simp [show i - n ≠ 0 by omega]

/-- Each bit of a plane after one bit is set. -/
theorem Plane.get_set (p : Plane) (x y : Nat) (b : Bool) (x' y' : Nat) :
    Plane.get (Plane.set p x y b) x' y' = if x < 256 ∧ y < 256 ∧ x' = x ∧ y' = y then b else Plane.get p x' y' := by
  unfold Plane.set Plane.get
  by_cases hxy : x < 256 ∧ y < 256
  · simp only [hxy, and_self, if_true, true_and]
    by_cases hx' : x' < 256
    · have hiff : (256 * y' + x' = 256 * y + x) ↔ (x' = x ∧ y' = y) := by omega
      have hlt : 256 * y + x < 65536 := by omega
      by_cases h : x' = x ∧ y' = y
      · obtain ⟨rfl, rfl⟩ := h
        cases b <;> simp [hx', hlt]
      · have hne : ¬ 256 * y' + x' = 256 * y + x := fun e => h (hiff.1 e)
        cases b
        · simp only [hx', h, decide_true, Bool.true_and, if_false, Bool.false_eq_true, BitVec.getLsbD_and, BitVec.getLsbD_not,
            Plane.one_shiftLeft_getLsbD, hne, decide_false, Bool.false_and, Bool.not_false, Bool.and_true]
          by_cases hl : 256 * y' + x' < 65536
          · simp [hl]
          · simp [hl, BitVec.getLsbD_of_ge p _ (Nat.le_of_not_lt hl)]
        · simp only [hx', h, decide_true, Bool.true_and, if_false, if_true, BitVec.getLsbD_or,
            Plane.one_shiftLeft_getLsbD, hne, decide_false, Bool.false_and, Bool.or_false]
    · simp [hx', show ¬ (x' = x ∧ y' = y) by omega]
  · rw [if_neg hxy, if_neg (by omega)]

/-- Each bit of a merged plane: the new value where the window has the cell and `sel` chooses it. -/
theorem Plane.get_mergeOn (p : Plane) (w h : Nat) (sel f : Nat → Nat → Bool) (x y : Nat) :
    Plane.get (Plane.mergeOn p w h sel f) x y =
      if (x < w ∧ y < h ∧ x < 256 ∧ y < 256) ∧ sel x y = true then f x y else Plane.get p x y := by
  have hand : ∀ a b : Plane, Plane.get (a &&& b) x y = (Plane.get a x y && Plane.get b x y) := fun a b => by
    simp only [Plane.get, BitVec.getLsbD_and]; cases decide (x < 256) <;> simp
  have hor : ∀ a b : Plane, Plane.get (a ||| b) x y = (Plane.get a x y || Plane.get b x y) := fun a b => by
    simp only [Plane.get, BitVec.getLsbD_or]; cases decide (x < 256) <;> simp
  by_cases hin : x < 256 ∧ y < 256
  · have hnot : ∀ a : Plane, Plane.get (~~~a) x y = !Plane.get a x y := fun a => by
      simp [Plane.get, hin.1, show 256 * y + x < 65536 by omega]
    rw [Plane.mergeOn, hor, hand, hnot, Plane.get_ofWindow, Plane.get_ofWindow]
    by_cases hw : x < w ∧ y < h
    · cases sel x y <;> simp [hw, hin]
    · have hd : decide (x < w ∧ y < h ∧ x < 256 ∧ y < 256) = false := by simp; omega
      rw [hd, if_neg (by omega)]
      simp
  · have hout : ∀ a : Plane, Plane.get a x y = false := fun a => by
      by_cases hx : x < 256
      · simp [Plane.get, BitVec.getLsbD_of_ge a (256 * y + x) (by omega)]
      · simp [Plane.get, hx]
    rw [hout, hout, if_neg (by omega)]

/-- A plane bit outside the 256 × 256 grid reads 0. -/
theorem Plane.get_of_outside (p : Plane) (x y : Nat) (h : ¬ (x < 256 ∧ y < 256)) : Plane.get p x y = false := by
  by_cases hx : x < 256
  · simp [Plane.get, BitVec.getLsbD_of_ge p (256 * y + x) (by omega)]
  · simp [Plane.get, hx]

theorem Plane.get_zero (x y : Nat) : Plane.get 0#65536 x y = false := by simp [Plane.get]

/-- A plane is its bits. -/
theorem Plane.ext (p q : Plane) (h : ∀ x y, x < 256 → y < 256 → Plane.get p x y = Plane.get q x y) : p = q := by
  refine BitVec.eq_of_getLsbD_eq fun i hi => ?_
  have := h (i % 256) (i / 256) (Nat.mod_lt _ (by omega)) (by omega)
  simpa [Plane.get, Nat.mod_lt i (show 0 < 256 by omega), Nat.div_add_mod] using this

/-! ### Cells of the state -/

theorem State.setcell_cell_get (s : State) (x y code : Nat) (hc : code ≠ 0) (x' y' : Nat) :
    Plane.get (s.setcell x y code).dplane x' y' =
        (if x < 256 ∧ y < 256 ∧ x' = x ∧ y' = y then true else Plane.get s.dplane x' y') ∧
      Plane.get (s.setcell x y code).vplane x' y' =
        (if x < 256 ∧ y < 256 ∧ x' = x ∧ y' = y then code == 2 else Plane.get s.vplane x' y') := by
  rw [State.setcell, if_neg hc]
  exact ⟨Plane.get_set _ _ _ _ _ _, Plane.get_set _ _ _ _ _ _⟩

theorem allCells_iff (w h : Nat) (f : Nat → Nat → Bool) :
    allCells w h f = true ↔ ∀ x y, x < w → y < h → f x y = true := by
  simp only [allCells, List.all_eq_true, List.mem_range]
  exact ⟨fun h x y hx hy => h y hy x hx, fun h y hy x hx => h x y hx hy⟩

theorem allCells_congr {w h : Nat} {f g : Nat → Nat → Bool} (e : ∀ x y, x < w → y < h → f x y = g x y) :
    allCells w h f = allCells w h g := by
  rw [Bool.eq_iff_iff, allCells_iff, allCells_iff]
  exact ⟨fun a x y hx hy => e x y hx hy ▸ a x y hx hy, fun a x y hx hy => (e x y hx hy).symm ▸ a x y hx hy⟩

theorem countCells_congr {w h : Nat} {f g : Nat → Nat → Bool} (e : ∀ x y, x < w → y < h → f x y = g x y) :
    countCells w h f = countCells w h g := by
  unfold countCells
  congr 1
  refine List.map_congr_left fun y hy => List.countP_congr fun x hx => ?_
  rw [e x y (List.mem_range.1 hx) (List.mem_range.1 hy)]

end Sys2Proof.Machine
end

