-- ==== Sys2Proof/Laws/Result.lean ====
section
/-! SUPPORT. The checks and the two ends of a command: what a rule's `require` lines answer when they hold, what is known when
they answered a state, and what a finished command's outcome says. -/

namespace Sys2Proof.Machine

variable {s t u : State} {e : Raise} {r : Result} {f : Unit → Result}

@[simp] theorem State.finish_ok : s.finish (.ok u) = .next u.successEnd := rfl
@[simp] theorem State.finish_error : s.finish (.error e) = .next (s.errorEnd e) := rfl

/-- Every finished command answers a next state: the success end of its writes, or the error end of the state it began in. -/
theorem State.finish_cases (s : State) (r : Result) :
    (∃ u, r = .ok u ∧ s.finish r = .next u.successEnd) ∨ (∃ e, r = .error e ∧ s.finish r = .next (s.errorEnd e)) := by
  cases r with
  | ok u => exact .inl ⟨u, rfl, rfl⟩
  | error e => exact .inr ⟨e, rfl, rfl⟩

theorem State.finish_eq_next (h : s.finish r = .next t) :
    (∃ u, r = .ok u ∧ t = u.successEnd) ∨ (∃ e, r = .error e ∧ t = s.errorEnd e) := by
  cases r with
  | ok u => exact .inl ⟨u, rfl, by simpa using h.symm⟩
  | error e => exact .inr ⟨e, rfl, by simpa using h.symm⟩

theorem require_of_true {c : Bool} (h : c = true) : require c e f = f () := by simp [require, h]
theorem require_of_false {c : Bool} (h : c = false) : require c e f = .error e := by simp [require, h]

theorem require_eq_ok {c : Bool} : require c e f = .ok u ↔ c = true ∧ f () = .ok u := by
  cases c <;> simp [require]

theorem andThen_eq_ok {α : Type} {x : Except Raise α} {g : α → Result} :
    andThen x g = .ok u ↔ ∃ a, x = .ok a ∧ g a = .ok u := by
  cases x <;> simp [andThen]

@[simp] theorem andThen_ok {α : Type} (a : α) (f : α → Result) : andThen (.ok a) f = f a := rfl
@[simp] theorem andThen_error {α : Type} (f : α → Result) : andThen (.error e) f = .error e := rfl

theorem State.withCoord_eq_ok {i : Fin 8} {dim : Nat} {g : Nat → Result} :
    s.withCoord i dim g = .ok u ↔ ∃ x, resolve s.arg[i] dim = some x ∧ g x = .ok u := by
  unfold State.withCoord
  cases resolve s.arg[i] dim <;> simp

theorem State.requireRange_eq_ok {i : Fin 8} {n : Nat} :
    s.requireRange i n f = .ok u ↔ s.argv i + n ≤ Config.dramBytes ∧ f () = .ok u := by
  simp [State.requireRange, require_eq_ok, State.inDram]

theorem State.requireArg_eq_ok {i : Fin 8} {lo hi : Nat} {k : ErrKind} :
    s.requireArg i lo hi k f = .ok u ↔ (lo ≤ s.argv i ∧ s.argv i ≤ hi) ∧ f () = .ok u := by
  simp [State.requireArg, require_eq_ok]

theorem State.requireByte_eq_ok {i : Fin 8} : s.requireByte i f = .ok u ↔ s.argv i ≤ 255 ∧ f () = .ok u := by
  simp [State.requireByte, State.requireArg_eq_ok]

theorem State.requireRange_pos {i : Fin 8} {n : Nat} (h : s.argv i + n ≤ Config.dramBytes) : s.requireRange i n f = f () :=
  require_of_true (by simpa [State.inDram] using h)

theorem State.requireArg_pos {i : Fin 8} {lo hi : Nat} {k : ErrKind} (h : lo ≤ s.argv i) (h' : s.argv i ≤ hi) :
    s.requireArg i lo hi k f = f () := require_of_true (by simp [h, h'])

theorem State.requireArg_neg {i : Fin 8} {lo hi : Nat} {k : ErrKind} (h : s.argv i < lo ∨ hi < s.argv i) :
    s.requireArg i lo hi k f = .error (raise k i) := require_of_false (by simp; omega)

theorem State.requireByte_pos {i : Fin 8} (h : s.argv i ≤ 255) : s.requireByte i f = f () :=
  State.requireArg_pos (Nat.zero_le _) h

theorem State.requireByte_neg {i : Fin 8} (h : 255 < s.argv i) : s.requireByte i f = .error (raise .operandRange i) :=
  State.requireArg_neg (.inr h)

/-! ### What is known of the state a rule's checks and writes answer -/

/-- Whenever the rule answers a state, `P` holds of it. -/
def Result.Post (P : State → Prop) (r : Result) : Prop := ∀ u, r = .ok u → P u

theorem Result.Post.of_ok {P : State → Prop} (h : P u) : Result.Post P (.ok u) := fun _ e => Except.ok.inj e ▸ h

theorem Result.Post.of_require {P : State → Prop} {c : Bool} (h : c = true → Result.Post P (f ())) :
    Result.Post P (require c e f) := fun u hu =>
  have := require_eq_ok.1 hu
  h this.1 u this.2

theorem Result.Post.of_andThen {P : State → Prop} {α : Type} {x : Except Raise α} {g : α → Result}
    (h : ∀ a, x = .ok a → Result.Post P (g a)) : Result.Post P (andThen x g) := fun u hu =>
  have ⟨a, ha, hf⟩ := andThen_eq_ok.1 hu
  h a ha u hf

theorem Result.Post.of_withCoord {P : State → Prop} {i : Fin 8} {dim : Nat} {g : Nat → Result}
    (h : ∀ x, resolve s.arg[i] dim = some x → Result.Post P (g x)) : Result.Post P (s.withCoord i dim g) := fun u hu =>
  have ⟨x, hx, hf⟩ := State.withCoord_eq_ok.1 hu
  h x hx u hf

theorem Result.Post.of_requireRange {P : State → Prop} {i : Fin 8} {n : Nat}
    (h : s.argv i + n ≤ Config.dramBytes → Result.Post P (f ())) : Result.Post P (s.requireRange i n f) := fun u hu =>
  have := State.requireRange_eq_ok.1 hu
  h this.1 u this.2

theorem Result.Post.of_requireArg {P : State → Prop} {i : Fin 8} {lo hi : Nat} {k : ErrKind}
    (h : lo ≤ s.argv i → s.argv i ≤ hi → Result.Post P (f ())) : Result.Post P (s.requireArg i lo hi k f) := fun u hu =>
  have := State.requireArg_eq_ok.1 hu
  h this.1.1 this.1.2 u this.2

theorem Result.Post.of_requireByte {P : State → Prop} {i : Fin 8} (h : s.argv i ≤ 255 → Result.Post P (f ())) :
    Result.Post P (s.requireByte i f) := fun u hu =>
  have := State.requireByte_eq_ok.1 hu
  h this.1 u this.2

/-- A finished command: the success end of a state of which `P` holds, or the error end of the state it began in. -/
theorem State.finish_post {P : State → Prop} (hr : Result.Post P r) (h : s.finish r = .next t) :
    (∃ u, P u ∧ t = u.successEnd) ∨ (∃ e, t = s.errorEnd e) := by
  rcases State.finish_eq_next h with ⟨u, hu, rfl⟩ | ⟨e, -, rfl⟩
  · exact .inl ⟨u, hr u hu, rfl⟩
  · exact .inr ⟨e, rfl⟩

/-- A resolved coordinate lies in its dimension (30_encoding.md R125). -/
theorem resolve_lt {c : Word} {dim x : Nat} (h : resolve c dim = some x) : x < dim := by
  unfold resolve at h
  split at h
  · rename_i hc
    cases h
    split <;> omega
  · cases h

/-! ### The table of first errors -/

section
variable {c : Prop} [Decidable c] {k : ErrKind} {n : Nat}

theorem needs_of (h : c) : needs c k n = none := if_pos h
theorem needs_of_not (h : ¬ c) : needs c k n = some (raise k n) := if_neg h
@[simp] theorem needs_eq_none : needs c k n = none ↔ c := by unfold needs; split <;> simp_all

/-- A check followed by others reports its own error when it fails, and theirs when it holds. -/
theorem needs_orElse_eq_some {r : Option Raise} {e : Raise} :
    (needs c k n <|> r) = some e ↔ (¬ c ∧ e = raise k n) ∨ (c ∧ r = some e) := by
  unfold needs
  split <;> simp_all [raise, eq_comm]
end

/-- A command reports its errors when each first error of the table is the error its rule gives. -/
theorem State.reportsErrors_of_finish {s : State} {i : Instr} {r : Result} (h : exec i s = s.finish r)
    (hr : ∀ e, s.firstError i = some e → r = .error e) : s.reportsErrors i := fun e he => by
  rw [h, hr e he]
  rfl

end Sys2Proof.Machine
end

