-- ==== Sys2Proof/Laws/State.lean ====
section
/-! SUPPORT. What each update of the state leaves in each field: one lemma per field per update. -/

namespace Sys2Proof.Machine

variable (s : State)

/-! ### setRes -/

@[simp] theorem State.setRes_irqEn (i : Fin 4) (v : Word) : (s.setRes i v).irqEn = s.irqEn := rfl
@[simp] theorem State.setRes_status (i : Fin 4) (v : Word) : (s.setRes i v).status = s.status := rfl
@[simp] theorem State.setRes_cmd (i : Fin 4) (v : Word) : (s.setRes i v).cmd = s.cmd := rfl
@[simp] theorem State.setRes_arg (i : Fin 4) (v : Word) : (s.setRes i v).arg = s.arg := rfl
@[simp] theorem State.setRes_res (i : Fin 4) (v : Word) : (s.setRes i v).res = s.res.set i v := rfl
@[simp] theorem State.setRes_height (i : Fin 4) (v : Word) : (s.setRes i v).height = s.height := rfl
@[simp] theorem State.setRes_width (i : Fin 4) (v : Word) : (s.setRes i v).width = s.width := rfl
@[simp] theorem State.setRes_dplane (i : Fin 4) (v : Word) : (s.setRes i v).dplane = s.dplane := rfl
@[simp] theorem State.setRes_vplane (i : Fin 4) (v : Word) : (s.setRes i v).vplane = s.vplane := rfl
@[simp] theorem State.setRes_rplane (i : Fin 4) (v : Word) : (s.setRes i v).rplane = s.rplane := rfl
@[simp] theorem State.setRes_poly (i : Fin 4) (v : Word) : (s.setRes i v).poly = s.poly := rfl
@[simp] theorem State.setRes_dram (i : Fin 4) (v : Word) : (s.setRes i v).dram = s.dram := rfl
@[simp] theorem State.setRes_cursor (i : Fin 4) (v : Word) : (s.setRes i v).cursor = s.cursor := rfl
@[simp] theorem State.setRes_stream (i : Fin 4) (v : Word) : (s.setRes i v).stream = s.stream := rfl
@[simp] theorem State.setRes_rdata (i : Fin 4) (v : Word) : (s.setRes i v).rdata = s.rdata := rfl
@[simp] theorem State.setRes_agenda (i : Fin 4) (v : Word) : (s.setRes i v).agenda = s.agenda := rfl
@[simp] theorem State.setRes_fresh (i : Fin 4) (v : Word) : (s.setRes i v).fresh = s.fresh := rfl

/-! ### setResNat -/

@[simp] theorem State.setResNat_irqEn (i : Fin 4) (n : Nat) : (s.setResNat i n).irqEn = s.irqEn := rfl
@[simp] theorem State.setResNat_status (i : Fin 4) (n : Nat) : (s.setResNat i n).status = s.status := rfl
@[simp] theorem State.setResNat_cmd (i : Fin 4) (n : Nat) : (s.setResNat i n).cmd = s.cmd := rfl
@[simp] theorem State.setResNat_arg (i : Fin 4) (n : Nat) : (s.setResNat i n).arg = s.arg := rfl
@[simp] theorem State.setResNat_res (i : Fin 4) (n : Nat) : (s.setResNat i n).res = s.res.set i (BitVec.ofNat 32 n) := rfl
@[simp] theorem State.setResNat_height (i : Fin 4) (n : Nat) : (s.setResNat i n).height = s.height := rfl
@[simp] theorem State.setResNat_width (i : Fin 4) (n : Nat) : (s.setResNat i n).width = s.width := rfl
@[simp] theorem State.setResNat_dplane (i : Fin 4) (n : Nat) : (s.setResNat i n).dplane = s.dplane := rfl
@[simp] theorem State.setResNat_vplane (i : Fin 4) (n : Nat) : (s.setResNat i n).vplane = s.vplane := rfl
@[simp] theorem State.setResNat_rplane (i : Fin 4) (n : Nat) : (s.setResNat i n).rplane = s.rplane := rfl
@[simp] theorem State.setResNat_poly (i : Fin 4) (n : Nat) : (s.setResNat i n).poly = s.poly := rfl
@[simp] theorem State.setResNat_dram (i : Fin 4) (n : Nat) : (s.setResNat i n).dram = s.dram := rfl
@[simp] theorem State.setResNat_cursor (i : Fin 4) (n : Nat) : (s.setResNat i n).cursor = s.cursor := rfl
@[simp] theorem State.setResNat_stream (i : Fin 4) (n : Nat) : (s.setResNat i n).stream = s.stream := rfl
@[simp] theorem State.setResNat_rdata (i : Fin 4) (n : Nat) : (s.setResNat i n).rdata = s.rdata := rfl
@[simp] theorem State.setResNat_agenda (i : Fin 4) (n : Nat) : (s.setResNat i n).agenda = s.agenda := rfl
@[simp] theorem State.setResNat_fresh (i : Fin 4) (n : Nat) : (s.setResNat i n).fresh = s.fresh := rfl

/-! ### setPoly -/

@[simp] theorem State.setPoly_irqEn (r : PReg) (p : Poly) : (s.setPoly r p).irqEn = s.irqEn := rfl
@[simp] theorem State.setPoly_status (r : PReg) (p : Poly) : (s.setPoly r p).status = s.status := rfl
@[simp] theorem State.setPoly_cmd (r : PReg) (p : Poly) : (s.setPoly r p).cmd = s.cmd := rfl
@[simp] theorem State.setPoly_arg (r : PReg) (p : Poly) : (s.setPoly r p).arg = s.arg := rfl
@[simp] theorem State.setPoly_res (r : PReg) (p : Poly) : (s.setPoly r p).res = s.res := rfl
@[simp] theorem State.setPoly_height (r : PReg) (p : Poly) : (s.setPoly r p).height = s.height := rfl
@[simp] theorem State.setPoly_width (r : PReg) (p : Poly) : (s.setPoly r p).width = s.width := rfl
@[simp] theorem State.setPoly_dplane (r : PReg) (p : Poly) : (s.setPoly r p).dplane = s.dplane := rfl
@[simp] theorem State.setPoly_vplane (r : PReg) (p : Poly) : (s.setPoly r p).vplane = s.vplane := rfl
@[simp] theorem State.setPoly_rplane (r : PReg) (p : Poly) : (s.setPoly r p).rplane = s.rplane := rfl
@[simp] theorem State.setPoly_poly (r : PReg) (p : Poly) : (s.setPoly r p).poly = s.poly.set r p := rfl
@[simp] theorem State.setPoly_dram (r : PReg) (p : Poly) : (s.setPoly r p).dram = s.dram := rfl
@[simp] theorem State.setPoly_cursor (r : PReg) (p : Poly) : (s.setPoly r p).cursor = s.cursor := rfl
@[simp] theorem State.setPoly_stream (r : PReg) (p : Poly) : (s.setPoly r p).stream = s.stream := rfl
@[simp] theorem State.setPoly_rdata (r : PReg) (p : Poly) : (s.setPoly r p).rdata = s.rdata := rfl
@[simp] theorem State.setPoly_agenda (r : PReg) (p : Poly) : (s.setPoly r p).agenda = s.agenda := rfl
@[simp] theorem State.setPoly_fresh (r : PReg) (p : Poly) : (s.setPoly r p).fresh = s.fresh := rfl

/-! ### memWrite -/

@[simp] theorem State.memWrite_irqEn (a : Nat) (bs : List Byte) : (s.memWrite a bs).irqEn = s.irqEn := rfl
@[simp] theorem State.memWrite_status (a : Nat) (bs : List Byte) : (s.memWrite a bs).status = s.status := rfl
@[simp] theorem State.memWrite_cmd (a : Nat) (bs : List Byte) : (s.memWrite a bs).cmd = s.cmd := rfl
@[simp] theorem State.memWrite_arg (a : Nat) (bs : List Byte) : (s.memWrite a bs).arg = s.arg := rfl
@[simp] theorem State.memWrite_res (a : Nat) (bs : List Byte) : (s.memWrite a bs).res = s.res := rfl
@[simp] theorem State.memWrite_height (a : Nat) (bs : List Byte) : (s.memWrite a bs).height = s.height := rfl
@[simp] theorem State.memWrite_width (a : Nat) (bs : List Byte) : (s.memWrite a bs).width = s.width := rfl
@[simp] theorem State.memWrite_dplane (a : Nat) (bs : List Byte) : (s.memWrite a bs).dplane = s.dplane := rfl
@[simp] theorem State.memWrite_vplane (a : Nat) (bs : List Byte) : (s.memWrite a bs).vplane = s.vplane := rfl
@[simp] theorem State.memWrite_rplane (a : Nat) (bs : List Byte) : (s.memWrite a bs).rplane = s.rplane := rfl
@[simp] theorem State.memWrite_poly (a : Nat) (bs : List Byte) : (s.memWrite a bs).poly = s.poly := rfl
@[simp] theorem State.memWrite_dram (a : Nat) (bs : List Byte) : (s.memWrite a bs).dram = Memory.write s.dram a bs := rfl
@[simp] theorem State.memWrite_cursor (a : Nat) (bs : List Byte) : (s.memWrite a bs).cursor = s.cursor := rfl
@[simp] theorem State.memWrite_stream (a : Nat) (bs : List Byte) : (s.memWrite a bs).stream = s.stream := rfl
@[simp] theorem State.memWrite_rdata (a : Nat) (bs : List Byte) : (s.memWrite a bs).rdata = s.rdata := rfl
@[simp] theorem State.memWrite_agenda (a : Nat) (bs : List Byte) : (s.memWrite a bs).agenda = s.agenda := rfl
@[simp] theorem State.memWrite_fresh (a : Nat) (bs : List Byte) : (s.memWrite a bs).fresh = s.fresh := rfl

/-! ### setMatrix -/

@[simp] theorem State.setMatrix_irqEn (h w : Nat) (d v r : Plane) : (s.setMatrix h w d v r).irqEn = s.irqEn := rfl
@[simp] theorem State.setMatrix_status (h w : Nat) (d v r : Plane) : (s.setMatrix h w d v r).status = s.status := rfl
@[simp] theorem State.setMatrix_cmd (h w : Nat) (d v r : Plane) : (s.setMatrix h w d v r).cmd = s.cmd := rfl
@[simp] theorem State.setMatrix_arg (h w : Nat) (d v r : Plane) : (s.setMatrix h w d v r).arg = s.arg := rfl
@[simp] theorem State.setMatrix_res (h w : Nat) (d v r : Plane) : (s.setMatrix h w d v r).res = s.res := rfl
@[simp] theorem State.setMatrix_height (h w : Nat) (d v r : Plane) : (s.setMatrix h w d v r).height = h := rfl
@[simp] theorem State.setMatrix_width (h w : Nat) (d v r : Plane) : (s.setMatrix h w d v r).width = w := rfl
@[simp] theorem State.setMatrix_dplane (h w : Nat) (d v r : Plane) : (s.setMatrix h w d v r).dplane = d := rfl
@[simp] theorem State.setMatrix_vplane (h w : Nat) (d v r : Plane) : (s.setMatrix h w d v r).vplane = v := rfl
@[simp] theorem State.setMatrix_rplane (h w : Nat) (d v r : Plane) : (s.setMatrix h w d v r).rplane = r := rfl
@[simp] theorem State.setMatrix_poly (h w : Nat) (d v r : Plane) : (s.setMatrix h w d v r).poly = s.poly := rfl
@[simp] theorem State.setMatrix_dram (h w : Nat) (d v r : Plane) : (s.setMatrix h w d v r).dram = s.dram := rfl
@[simp] theorem State.setMatrix_cursor (h w : Nat) (d v r : Plane) : (s.setMatrix h w d v r).cursor = s.cursor := rfl
@[simp] theorem State.setMatrix_stream (h w : Nat) (d v r : Plane) : (s.setMatrix h w d v r).stream = s.stream := rfl
@[simp] theorem State.setMatrix_rdata (h w : Nat) (d v r : Plane) : (s.setMatrix h w d v r).rdata = s.rdata := rfl
@[simp] theorem State.setMatrix_agenda (h w : Nat) (d v r : Plane) : (s.setMatrix h w d v r).agenda = s.agenda := rfl
@[simp] theorem State.setMatrix_fresh (h w : Nat) (d v r : Plane) : (s.setMatrix h w d v r).fresh = s.fresh := rfl

/-! ### cancelStream -/

@[simp] theorem State.cancelStream_irqEn : (s.cancelStream).irqEn = s.irqEn := rfl
@[simp] theorem State.cancelStream_status : (s.cancelStream).status = s.status := rfl
@[simp] theorem State.cancelStream_cmd : (s.cancelStream).cmd = s.cmd := rfl
@[simp] theorem State.cancelStream_arg : (s.cancelStream).arg = s.arg := rfl
@[simp] theorem State.cancelStream_res : (s.cancelStream).res = s.res := rfl
@[simp] theorem State.cancelStream_height : (s.cancelStream).height = s.height := rfl
@[simp] theorem State.cancelStream_width : (s.cancelStream).width = s.width := rfl
@[simp] theorem State.cancelStream_dplane : (s.cancelStream).dplane = s.dplane := rfl
@[simp] theorem State.cancelStream_vplane : (s.cancelStream).vplane = s.vplane := rfl
@[simp] theorem State.cancelStream_rplane : (s.cancelStream).rplane = s.rplane := rfl
@[simp] theorem State.cancelStream_poly : (s.cancelStream).poly = s.poly := rfl
@[simp] theorem State.cancelStream_dram : (s.cancelStream).dram = s.dram := rfl
@[simp] theorem State.cancelStream_cursor : (s.cancelStream).cursor = s.cursor := rfl
@[simp] theorem State.cancelStream_stream : (s.cancelStream).stream = { s.stream with kind := .none, pos := 0#32, remain := 0#32, stale := false } := rfl
@[simp] theorem State.cancelStream_rdata : (s.cancelStream).rdata = s.rdata := rfl
@[simp] theorem State.cancelStream_agenda : (s.cancelStream).agenda = s.agenda := rfl
@[simp] theorem State.cancelStream_fresh : (s.cancelStream).fresh = s.fresh := rfl

/-! ### invalidateCursor -/

@[simp] theorem State.invalidateCursor_irqEn : (s.invalidateCursor).irqEn = s.irqEn := rfl
@[simp] theorem State.invalidateCursor_status : (s.invalidateCursor).status = s.status := rfl
@[simp] theorem State.invalidateCursor_cmd : (s.invalidateCursor).cmd = s.cmd := rfl
@[simp] theorem State.invalidateCursor_arg : (s.invalidateCursor).arg = s.arg := rfl
@[simp] theorem State.invalidateCursor_res : (s.invalidateCursor).res = s.res := rfl
@[simp] theorem State.invalidateCursor_height : (s.invalidateCursor).height = s.height := rfl
@[simp] theorem State.invalidateCursor_width : (s.invalidateCursor).width = s.width := rfl
@[simp] theorem State.invalidateCursor_dplane : (s.invalidateCursor).dplane = s.dplane := rfl
@[simp] theorem State.invalidateCursor_vplane : (s.invalidateCursor).vplane = s.vplane := rfl
@[simp] theorem State.invalidateCursor_rplane : (s.invalidateCursor).rplane = s.rplane := rfl
@[simp] theorem State.invalidateCursor_poly : (s.invalidateCursor).poly = s.poly := rfl
@[simp] theorem State.invalidateCursor_dram : (s.invalidateCursor).dram = s.dram := rfl
@[simp] theorem State.invalidateCursor_cursor : (s.invalidateCursor).cursor = { s.cursor with valid := false } := rfl
@[simp] theorem State.invalidateCursor_stream : (s.invalidateCursor).stream = s.stream := rfl
@[simp] theorem State.invalidateCursor_rdata : (s.invalidateCursor).rdata = s.rdata := rfl
@[simp] theorem State.invalidateCursor_agenda : (s.invalidateCursor).agenda = s.agenda := rfl
@[simp] theorem State.invalidateCursor_fresh : (s.invalidateCursor).fresh = s.fresh := rfl

/-! ### errorEnd -/

@[simp] theorem State.errorEnd_irqEn (e : Raise) : (s.errorEnd e).irqEn = s.irqEn := rfl
@[simp] theorem State.errorEnd_status (e : Raise) : (s.errorEnd e).status = { s.status with busy := false, done := true, err := true, errcode := e.kind.code, errinfo := e.info } := rfl
@[simp] theorem State.errorEnd_cmd (e : Raise) : (s.errorEnd e).cmd = s.cmd := rfl
@[simp] theorem State.errorEnd_arg (e : Raise) : (s.errorEnd e).arg = s.arg := rfl
@[simp] theorem State.errorEnd_res (e : Raise) : (s.errorEnd e).res = s.res := rfl
@[simp] theorem State.errorEnd_height (e : Raise) : (s.errorEnd e).height = s.height := rfl
@[simp] theorem State.errorEnd_width (e : Raise) : (s.errorEnd e).width = s.width := rfl
@[simp] theorem State.errorEnd_dplane (e : Raise) : (s.errorEnd e).dplane = s.dplane := rfl
@[simp] theorem State.errorEnd_vplane (e : Raise) : (s.errorEnd e).vplane = s.vplane := rfl
@[simp] theorem State.errorEnd_rplane (e : Raise) : (s.errorEnd e).rplane = s.rplane := rfl
@[simp] theorem State.errorEnd_poly (e : Raise) : (s.errorEnd e).poly = s.poly := rfl
@[simp] theorem State.errorEnd_dram (e : Raise) : (s.errorEnd e).dram = s.dram := rfl
@[simp] theorem State.errorEnd_cursor (e : Raise) : (s.errorEnd e).cursor = s.cursor := rfl
@[simp] theorem State.errorEnd_stream (e : Raise) : (s.errorEnd e).stream = s.stream := rfl
@[simp] theorem State.errorEnd_rdata (e : Raise) : (s.errorEnd e).rdata = s.rdata := rfl
@[simp] theorem State.errorEnd_agenda (e : Raise) : (s.errorEnd e).agenda = s.agenda := rfl
@[simp] theorem State.errorEnd_fresh (e : Raise) : (s.errorEnd e).fresh = s.fresh := rfl

/-! ### successEnd -/

@[simp] theorem State.successEnd_irqEn : (s.successEnd).irqEn = s.irqEn := rfl
@[simp] theorem State.successEnd_status : (s.successEnd).status = { s.status with busy := false, done := true } := rfl
@[simp] theorem State.successEnd_cmd : (s.successEnd).cmd = s.cmd := rfl
@[simp] theorem State.successEnd_arg : (s.successEnd).arg = s.arg := rfl
@[simp] theorem State.successEnd_res : (s.successEnd).res = s.res := rfl
@[simp] theorem State.successEnd_height : (s.successEnd).height = s.height := rfl
@[simp] theorem State.successEnd_width : (s.successEnd).width = s.width := rfl
@[simp] theorem State.successEnd_dplane : (s.successEnd).dplane = s.dplane := rfl
@[simp] theorem State.successEnd_vplane : (s.successEnd).vplane = s.vplane := rfl
@[simp] theorem State.successEnd_rplane : (s.successEnd).rplane = s.rplane := rfl
@[simp] theorem State.successEnd_poly : (s.successEnd).poly = s.poly := rfl
@[simp] theorem State.successEnd_dram : (s.successEnd).dram = s.dram := rfl
@[simp] theorem State.successEnd_cursor : (s.successEnd).cursor = s.cursor := rfl
@[simp] theorem State.successEnd_stream : (s.successEnd).stream = s.stream := rfl
@[simp] theorem State.successEnd_rdata : (s.successEnd).rdata = s.rdata := rfl
@[simp] theorem State.successEnd_agenda : (s.successEnd).agenda = s.agenda := rfl
@[simp] theorem State.successEnd_fresh : (s.successEnd).fresh = s.fresh := rfl

/-! ### accept -/

@[simp] theorem State.accept_irqEn (w : Word) : (s.accept w).irqEn = s.irqEn := rfl
@[simp] theorem State.accept_status (w : Word) : (s.accept w).status = s.status.accepted := rfl
@[simp] theorem State.accept_cmd (w : Word) : (s.accept w).cmd = w := rfl
@[simp] theorem State.accept_arg (w : Word) : (s.accept w).arg = s.arg := rfl
@[simp] theorem State.accept_res (w : Word) : (s.accept w).res = s.res := rfl
@[simp] theorem State.accept_height (w : Word) : (s.accept w).height = s.height := rfl
@[simp] theorem State.accept_width (w : Word) : (s.accept w).width = s.width := rfl
@[simp] theorem State.accept_dplane (w : Word) : (s.accept w).dplane = s.dplane := rfl
@[simp] theorem State.accept_vplane (w : Word) : (s.accept w).vplane = s.vplane := rfl
@[simp] theorem State.accept_rplane (w : Word) : (s.accept w).rplane = s.rplane := rfl
@[simp] theorem State.accept_poly (w : Word) : (s.accept w).poly = s.poly := rfl
@[simp] theorem State.accept_dram (w : Word) : (s.accept w).dram = s.dram := rfl
@[simp] theorem State.accept_cursor (w : Word) : (s.accept w).cursor = s.cursor := rfl
@[simp] theorem State.accept_stream (w : Word) : (s.accept w).stream = s.stream := rfl
@[simp] theorem State.accept_rdata (w : Word) : (s.accept w).rdata = s.rdata := rfl
@[simp] theorem State.accept_agenda (w : Word) : (s.accept w).agenda = s.agenda := rfl
@[simp] theorem State.accept_fresh (w : Word) : (s.accept w).fresh = s.fresh := rfl

/-! ### writeStatus -/

@[simp] theorem State.writeStatus_irqEn (d : Word) : (s.writeStatus d).irqEn = s.irqEn := rfl
@[simp] theorem State.writeStatus_status (d : Word) : (s.writeStatus d).status = s.status.clear d := rfl
@[simp] theorem State.writeStatus_cmd (d : Word) : (s.writeStatus d).cmd = s.cmd := rfl
@[simp] theorem State.writeStatus_arg (d : Word) : (s.writeStatus d).arg = s.arg := rfl
@[simp] theorem State.writeStatus_res (d : Word) : (s.writeStatus d).res = s.res := rfl
@[simp] theorem State.writeStatus_height (d : Word) : (s.writeStatus d).height = s.height := rfl
@[simp] theorem State.writeStatus_width (d : Word) : (s.writeStatus d).width = s.width := rfl
@[simp] theorem State.writeStatus_dplane (d : Word) : (s.writeStatus d).dplane = s.dplane := rfl
@[simp] theorem State.writeStatus_vplane (d : Word) : (s.writeStatus d).vplane = s.vplane := rfl
@[simp] theorem State.writeStatus_rplane (d : Word) : (s.writeStatus d).rplane = s.rplane := rfl
@[simp] theorem State.writeStatus_poly (d : Word) : (s.writeStatus d).poly = s.poly := rfl
@[simp] theorem State.writeStatus_dram (d : Word) : (s.writeStatus d).dram = s.dram := rfl
@[simp] theorem State.writeStatus_cursor (d : Word) : (s.writeStatus d).cursor = s.cursor := rfl
@[simp] theorem State.writeStatus_stream (d : Word) : (s.writeStatus d).stream = s.stream := rfl
@[simp] theorem State.writeStatus_rdata (d : Word) : (s.writeStatus d).rdata = s.rdata := rfl
@[simp] theorem State.writeStatus_agenda (d : Word) : (s.writeStatus d).agenda = s.agenda := rfl
@[simp] theorem State.writeStatus_fresh (d : Word) : (s.writeStatus d).fresh = s.fresh := rfl

/-! ### overrun -/

@[simp] theorem State.overrun_irqEn : (s.overrun).irqEn = s.irqEn := rfl
@[simp] theorem State.overrun_status : (s.overrun).status = { s.status with ovr := true } := rfl
@[simp] theorem State.overrun_cmd : (s.overrun).cmd = s.cmd := rfl
@[simp] theorem State.overrun_arg : (s.overrun).arg = s.arg := rfl
@[simp] theorem State.overrun_res : (s.overrun).res = s.res := rfl
@[simp] theorem State.overrun_height : (s.overrun).height = s.height := rfl
@[simp] theorem State.overrun_width : (s.overrun).width = s.width := rfl
@[simp] theorem State.overrun_dplane : (s.overrun).dplane = s.dplane := rfl
@[simp] theorem State.overrun_vplane : (s.overrun).vplane = s.vplane := rfl
@[simp] theorem State.overrun_rplane : (s.overrun).rplane = s.rplane := rfl
@[simp] theorem State.overrun_poly : (s.overrun).poly = s.poly := rfl
@[simp] theorem State.overrun_dram : (s.overrun).dram = s.dram := rfl
@[simp] theorem State.overrun_cursor : (s.overrun).cursor = s.cursor := rfl
@[simp] theorem State.overrun_stream : (s.overrun).stream = s.stream := rfl
@[simp] theorem State.overrun_rdata : (s.overrun).rdata = s.rdata := rfl
@[simp] theorem State.overrun_agenda : (s.overrun).agenda = s.agenda := rfl
@[simp] theorem State.overrun_fresh : (s.overrun).fresh = s.fresh := rfl

/-! ### putPoly -/

@[simp] theorem State.putPoly_irqEn (rd : PReg) (p : Poly) : (s.putPoly rd p).irqEn = s.irqEn := rfl
@[simp] theorem State.putPoly_status (rd : PReg) (p : Poly) : (s.putPoly rd p).status = s.status := rfl
@[simp] theorem State.putPoly_cmd (rd : PReg) (p : Poly) : (s.putPoly rd p).cmd = s.cmd := rfl
@[simp] theorem State.putPoly_arg (rd : PReg) (p : Poly) : (s.putPoly rd p).arg = s.arg := rfl
@[simp] theorem State.putPoly_res (rd : PReg) (p : Poly) : (s.putPoly rd p).res = s.res.set 0 (BitVec.ofNat 32 p.length) := rfl
@[simp] theorem State.putPoly_height (rd : PReg) (p : Poly) : (s.putPoly rd p).height = s.height := rfl
@[simp] theorem State.putPoly_width (rd : PReg) (p : Poly) : (s.putPoly rd p).width = s.width := rfl
@[simp] theorem State.putPoly_dplane (rd : PReg) (p : Poly) : (s.putPoly rd p).dplane = s.dplane := rfl
@[simp] theorem State.putPoly_vplane (rd : PReg) (p : Poly) : (s.putPoly rd p).vplane = s.vplane := rfl
@[simp] theorem State.putPoly_rplane (rd : PReg) (p : Poly) : (s.putPoly rd p).rplane = s.rplane := rfl
@[simp] theorem State.putPoly_poly (rd : PReg) (p : Poly) : (s.putPoly rd p).poly = s.poly.set rd p := rfl
@[simp] theorem State.putPoly_dram (rd : PReg) (p : Poly) : (s.putPoly rd p).dram = s.dram := rfl
@[simp] theorem State.putPoly_cursor (rd : PReg) (p : Poly) : (s.putPoly rd p).cursor = s.cursor := rfl
@[simp] theorem State.putPoly_stream (rd : PReg) (p : Poly) : (s.putPoly rd p).stream = s.stream := rfl
@[simp] theorem State.putPoly_rdata (rd : PReg) (p : Poly) : (s.putPoly rd p).rdata = s.rdata := rfl
@[simp] theorem State.putPoly_agenda (rd : PReg) (p : Poly) : (s.putPoly rd p).agenda = s.agenda := rfl
@[simp] theorem State.putPoly_fresh (rd : PReg) (p : Poly) : (s.putPoly rd p).fresh = s.fresh := rfl

/-! ### setCursorRes -/

@[simp] theorem State.setCursorRes_irqEn (a b c d : Nat) : (s.setCursorRes a b c d).irqEn = s.irqEn := rfl
@[simp] theorem State.setCursorRes_status (a b c d : Nat) : (s.setCursorRes a b c d).status = s.status := rfl
@[simp] theorem State.setCursorRes_cmd (a b c d : Nat) : (s.setCursorRes a b c d).cmd = s.cmd := rfl
@[simp] theorem State.setCursorRes_arg (a b c d : Nat) : (s.setCursorRes a b c d).arg = s.arg := rfl
@[simp] theorem State.setCursorRes_height (a b c d : Nat) : (s.setCursorRes a b c d).height = s.height := rfl
@[simp] theorem State.setCursorRes_width (a b c d : Nat) : (s.setCursorRes a b c d).width = s.width := rfl
@[simp] theorem State.setCursorRes_dplane (a b c d : Nat) : (s.setCursorRes a b c d).dplane = s.dplane := rfl
@[simp] theorem State.setCursorRes_vplane (a b c d : Nat) : (s.setCursorRes a b c d).vplane = s.vplane := rfl
@[simp] theorem State.setCursorRes_rplane (a b c d : Nat) : (s.setCursorRes a b c d).rplane = s.rplane := rfl
@[simp] theorem State.setCursorRes_poly (a b c d : Nat) : (s.setCursorRes a b c d).poly = s.poly := rfl
@[simp] theorem State.setCursorRes_dram (a b c d : Nat) : (s.setCursorRes a b c d).dram = s.dram := rfl
@[simp] theorem State.setCursorRes_cursor (a b c d : Nat) : (s.setCursorRes a b c d).cursor = s.cursor := rfl
@[simp] theorem State.setCursorRes_stream (a b c d : Nat) : (s.setCursorRes a b c d).stream = s.stream := rfl
@[simp] theorem State.setCursorRes_rdata (a b c d : Nat) : (s.setCursorRes a b c d).rdata = s.rdata := rfl
@[simp] theorem State.setCursorRes_agenda (a b c d : Nat) : (s.setCursorRes a b c d).agenda = s.agenda := rfl
@[simp] theorem State.setCursorRes_fresh (a b c d : Nat) : (s.setCursorRes a b c d).fresh = s.fresh := rfl

/-! ### negate -/

@[simp] theorem State.negate_irqEn : (s.negate).irqEn = s.irqEn := rfl
@[simp] theorem State.negate_status : (s.negate).status = s.status := rfl
@[simp] theorem State.negate_cmd : (s.negate).cmd = s.cmd := rfl
@[simp] theorem State.negate_arg : (s.negate).arg = s.arg := rfl
@[simp] theorem State.negate_res : (s.negate).res = s.res := rfl
@[simp] theorem State.negate_height : (s.negate).height = s.height := rfl
@[simp] theorem State.negate_width : (s.negate).width = s.width := rfl
@[simp] theorem State.negate_rplane : (s.negate).rplane = s.rplane := rfl
@[simp] theorem State.negate_poly : (s.negate).poly = s.poly := rfl
@[simp] theorem State.negate_dram : (s.negate).dram = s.dram := rfl
@[simp] theorem State.negate_cursor : (s.negate).cursor = s.cursor := rfl
@[simp] theorem State.negate_stream : (s.negate).stream = s.stream := rfl
@[simp] theorem State.negate_rdata : (s.negate).rdata = s.rdata := rfl
@[simp] theorem State.negate_agenda : (s.negate).agenda = s.agenda := rfl
@[simp] theorem State.negate_fresh : (s.negate).fresh = s.fresh := rfl

/-! ### transpose -/

@[simp] theorem State.transpose_irqEn : (s.transpose).irqEn = s.irqEn := rfl
@[simp] theorem State.transpose_status : (s.transpose).status = s.status := rfl
@[simp] theorem State.transpose_cmd : (s.transpose).cmd = s.cmd := rfl
@[simp] theorem State.transpose_arg : (s.transpose).arg = s.arg := rfl
@[simp] theorem State.transpose_res : (s.transpose).res = s.res := rfl
@[simp] theorem State.transpose_height : (s.transpose).height = s.width := rfl
@[simp] theorem State.transpose_width : (s.transpose).width = s.height := rfl
@[simp] theorem State.transpose_rplane : (s.transpose).rplane = 0#65536 := rfl
@[simp] theorem State.transpose_poly : (s.transpose).poly = s.poly := rfl
@[simp] theorem State.transpose_dram : (s.transpose).dram = s.dram := rfl
@[simp] theorem State.transpose_cursor : (s.transpose).cursor = s.cursor := rfl
@[simp] theorem State.transpose_stream : (s.transpose).stream = s.stream := rfl
@[simp] theorem State.transpose_rdata : (s.transpose).rdata = s.rdata := rfl
@[simp] theorem State.transpose_agenda : (s.transpose).agenda = s.agenda := rfl
@[simp] theorem State.transpose_fresh : (s.transpose).fresh = s.fresh := rfl

/-! ### border -/

@[simp] theorem State.border_irqEn (n : Nat) (dark : Bool) : (s.border n dark).irqEn = s.irqEn := rfl
@[simp] theorem State.border_status (n : Nat) (dark : Bool) : (s.border n dark).status = s.status := rfl
@[simp] theorem State.border_cmd (n : Nat) (dark : Bool) : (s.border n dark).cmd = s.cmd := rfl
@[simp] theorem State.border_arg (n : Nat) (dark : Bool) : (s.border n dark).arg = s.arg := rfl
@[simp] theorem State.border_res (n : Nat) (dark : Bool) : (s.border n dark).res = s.res := rfl
@[simp] theorem State.border_height (n : Nat) (dark : Bool) : (s.border n dark).height = s.height + 2 * n := rfl
@[simp] theorem State.border_width (n : Nat) (dark : Bool) : (s.border n dark).width = s.width + 2 * n := rfl
@[simp] theorem State.border_rplane (n : Nat) (dark : Bool) : (s.border n dark).rplane = 0#65536 := rfl
@[simp] theorem State.border_poly (n : Nat) (dark : Bool) : (s.border n dark).poly = s.poly := rfl
@[simp] theorem State.border_dram (n : Nat) (dark : Bool) : (s.border n dark).dram = s.dram := rfl
@[simp] theorem State.border_cursor (n : Nat) (dark : Bool) : (s.border n dark).cursor = s.cursor := rfl
@[simp] theorem State.border_stream (n : Nat) (dark : Bool) : (s.border n dark).stream = s.stream := rfl
@[simp] theorem State.border_rdata (n : Nat) (dark : Bool) : (s.border n dark).rdata = s.rdata := rfl
@[simp] theorem State.border_agenda (n : Nat) (dark : Bool) : (s.border n dark).agenda = s.agenda := rfl
@[simp] theorem State.border_fresh (n : Nat) (dark : Bool) : (s.border n dark).fresh = s.fresh := rfl

/-! ### applyMask -/

@[simp] theorem State.applyMask_irqEn (m : Nat) : (s.applyMask m).irqEn = s.irqEn := rfl
@[simp] theorem State.applyMask_status (m : Nat) : (s.applyMask m).status = s.status := rfl
@[simp] theorem State.applyMask_cmd (m : Nat) : (s.applyMask m).cmd = s.cmd := rfl
@[simp] theorem State.applyMask_arg (m : Nat) : (s.applyMask m).arg = s.arg := rfl
@[simp] theorem State.applyMask_res (m : Nat) : (s.applyMask m).res = s.res := rfl
@[simp] theorem State.applyMask_height (m : Nat) : (s.applyMask m).height = s.height := rfl
@[simp] theorem State.applyMask_width (m : Nat) : (s.applyMask m).width = s.width := rfl
@[simp] theorem State.applyMask_dplane (m : Nat) : (s.applyMask m).dplane = s.dplane := rfl
@[simp] theorem State.applyMask_rplane (m : Nat) : (s.applyMask m).rplane = s.rplane := rfl
@[simp] theorem State.applyMask_poly (m : Nat) : (s.applyMask m).poly = s.poly := rfl
@[simp] theorem State.applyMask_dram (m : Nat) : (s.applyMask m).dram = s.dram := rfl
@[simp] theorem State.applyMask_cursor (m : Nat) : (s.applyMask m).cursor = s.cursor := rfl
@[simp] theorem State.applyMask_stream (m : Nat) : (s.applyMask m).stream = s.stream := rfl
@[simp] theorem State.applyMask_rdata (m : Nat) : (s.applyMask m).rdata = s.rdata := rfl
@[simp] theorem State.applyMask_agenda (m : Nat) : (s.applyMask m).agenda = s.agenda := rfl
@[simp] theorem State.applyMask_fresh (m : Nat) : (s.applyMask m).fresh = s.fresh := rfl

/-! ### armRaw -/

@[simp] theorem State.armRaw_irqEn (scale bpp len : Nat) : (s.armRaw scale bpp len).irqEn = s.irqEn := rfl
@[simp] theorem State.armRaw_status (scale bpp len : Nat) : (s.armRaw scale bpp len).status = s.status := rfl
@[simp] theorem State.armRaw_cmd (scale bpp len : Nat) : (s.armRaw scale bpp len).cmd = s.cmd := rfl
@[simp] theorem State.armRaw_arg (scale bpp len : Nat) : (s.armRaw scale bpp len).arg = s.arg := rfl
@[simp] theorem State.armRaw_res (scale bpp len : Nat) : (s.armRaw scale bpp len).res = s.res := rfl
@[simp] theorem State.armRaw_height (scale bpp len : Nat) : (s.armRaw scale bpp len).height = s.height := rfl
@[simp] theorem State.armRaw_width (scale bpp len : Nat) : (s.armRaw scale bpp len).width = s.width := rfl
@[simp] theorem State.armRaw_dplane (scale bpp len : Nat) : (s.armRaw scale bpp len).dplane = s.dplane := rfl
@[simp] theorem State.armRaw_vplane (scale bpp len : Nat) : (s.armRaw scale bpp len).vplane = s.vplane := rfl
@[simp] theorem State.armRaw_rplane (scale bpp len : Nat) : (s.armRaw scale bpp len).rplane = s.rplane := rfl
@[simp] theorem State.armRaw_poly (scale bpp len : Nat) : (s.armRaw scale bpp len).poly = s.poly := rfl
@[simp] theorem State.armRaw_dram (scale bpp len : Nat) : (s.armRaw scale bpp len).dram = s.dram := rfl
@[simp] theorem State.armRaw_cursor (scale bpp len : Nat) : (s.armRaw scale bpp len).cursor = s.cursor := rfl
@[simp] theorem State.armRaw_stream (scale bpp len : Nat) : (s.armRaw scale bpp len).stream = ⟨.raw, scale, bpp, 0#32, BitVec.ofNat 32 len, false⟩ := rfl
@[simp] theorem State.armRaw_rdata (scale bpp len : Nat) : (s.armRaw scale bpp len).rdata = s.rdata := rfl
@[simp] theorem State.armRaw_agenda (scale bpp len : Nat) : (s.armRaw scale bpp len).agenda = s.agenda := rfl
@[simp] theorem State.armRaw_fresh (scale bpp len : Nat) : (s.armRaw scale bpp len).fresh = s.fresh := rfl

/-! ### armGif -/

@[simp] theorem State.armGif_irqEn (scale len : Nat) : (s.armGif scale len).irqEn = s.irqEn := rfl
@[simp] theorem State.armGif_status (scale len : Nat) : (s.armGif scale len).status = s.status := rfl
@[simp] theorem State.armGif_cmd (scale len : Nat) : (s.armGif scale len).cmd = s.cmd := rfl
@[simp] theorem State.armGif_arg (scale len : Nat) : (s.armGif scale len).arg = s.arg := rfl
@[simp] theorem State.armGif_res (scale len : Nat) : (s.armGif scale len).res = s.res := rfl
@[simp] theorem State.armGif_height (scale len : Nat) : (s.armGif scale len).height = s.height := rfl
@[simp] theorem State.armGif_width (scale len : Nat) : (s.armGif scale len).width = s.width := rfl
@[simp] theorem State.armGif_dplane (scale len : Nat) : (s.armGif scale len).dplane = s.dplane := rfl
@[simp] theorem State.armGif_vplane (scale len : Nat) : (s.armGif scale len).vplane = s.vplane := rfl
@[simp] theorem State.armGif_rplane (scale len : Nat) : (s.armGif scale len).rplane = s.rplane := rfl
@[simp] theorem State.armGif_poly (scale len : Nat) : (s.armGif scale len).poly = s.poly := rfl
@[simp] theorem State.armGif_dram (scale len : Nat) : (s.armGif scale len).dram = s.dram := rfl
@[simp] theorem State.armGif_cursor (scale len : Nat) : (s.armGif scale len).cursor = s.cursor := rfl
@[simp] theorem State.armGif_stream (scale len : Nat) : (s.armGif scale len).stream = ⟨.gif, scale, s.stream.bpp, 0#32, BitVec.ofNat 32 len, false⟩ := rfl
@[simp] theorem State.armGif_rdata (scale len : Nat) : (s.armGif scale len).rdata = s.rdata := rfl
@[simp] theorem State.armGif_agenda (scale len : Nat) : (s.armGif scale len).agenda = s.agenda := rfl
@[simp] theorem State.armGif_fresh (scale len : Nat) : (s.armGif scale len).fresh = s.fresh := rfl

/-! ### answer -/

@[simp] theorem State.answer_irqEn (v : Word) : (s.answer v).irqEn = s.irqEn := rfl
@[simp] theorem State.answer_status (v : Word) : (s.answer v).status = s.status := rfl
@[simp] theorem State.answer_cmd (v : Word) : (s.answer v).cmd = s.cmd := rfl
@[simp] theorem State.answer_arg (v : Word) : (s.answer v).arg = s.arg := rfl
@[simp] theorem State.answer_res (v : Word) : (s.answer v).res = s.res := rfl
@[simp] theorem State.answer_height (v : Word) : (s.answer v).height = s.height := rfl
@[simp] theorem State.answer_width (v : Word) : (s.answer v).width = s.width := rfl
@[simp] theorem State.answer_dplane (v : Word) : (s.answer v).dplane = s.dplane := rfl
@[simp] theorem State.answer_vplane (v : Word) : (s.answer v).vplane = s.vplane := rfl
@[simp] theorem State.answer_rplane (v : Word) : (s.answer v).rplane = s.rplane := rfl
@[simp] theorem State.answer_poly (v : Word) : (s.answer v).poly = s.poly := rfl
@[simp] theorem State.answer_dram (v : Word) : (s.answer v).dram = s.dram := rfl
@[simp] theorem State.answer_cursor (v : Word) : (s.answer v).cursor = s.cursor := rfl
@[simp] theorem State.answer_stream (v : Word) : (s.answer v).stream = s.stream := rfl
@[simp] theorem State.answer_rdata (v : Word) : (s.answer v).rdata = v := rfl
@[simp] theorem State.answer_agenda (v : Word) : (s.answer v).agenda = s.agenda := rfl
@[simp] theorem State.answer_fresh (v : Word) : (s.answer v).fresh = s.fresh := rfl

/-! ### answerFree -/

@[simp] theorem State.answerFree_irqEn (v : Word) : (s.answerFree v).irqEn = s.irqEn := rfl
@[simp] theorem State.answerFree_status (v : Word) : (s.answerFree v).status = s.status := rfl
@[simp] theorem State.answerFree_cmd (v : Word) : (s.answerFree v).cmd = s.cmd := rfl
@[simp] theorem State.answerFree_arg (v : Word) : (s.answerFree v).arg = s.arg := rfl
@[simp] theorem State.answerFree_res (v : Word) : (s.answerFree v).res = s.res := rfl
@[simp] theorem State.answerFree_height (v : Word) : (s.answerFree v).height = s.height := rfl
@[simp] theorem State.answerFree_width (v : Word) : (s.answerFree v).width = s.width := rfl
@[simp] theorem State.answerFree_dplane (v : Word) : (s.answerFree v).dplane = s.dplane := rfl
@[simp] theorem State.answerFree_vplane (v : Word) : (s.answerFree v).vplane = s.vplane := rfl
@[simp] theorem State.answerFree_rplane (v : Word) : (s.answerFree v).rplane = s.rplane := rfl
@[simp] theorem State.answerFree_poly (v : Word) : (s.answerFree v).poly = s.poly := rfl
@[simp] theorem State.answerFree_dram (v : Word) : (s.answerFree v).dram = s.dram := rfl
@[simp] theorem State.answerFree_cursor (v : Word) : (s.answerFree v).cursor = s.cursor := rfl
@[simp] theorem State.answerFree_stream (v : Word) : (s.answerFree v).stream = s.stream := rfl
@[simp] theorem State.answerFree_rdata (v : Word) : (s.answerFree v).rdata = v := rfl
@[simp] theorem State.answerFree_agenda (v : Word) : (s.answerFree v).agenda = s.agenda := rfl
@[simp] theorem State.answerFree_fresh (v : Word) : (s.answerFree v).fresh = s.fresh + 1 := rfl

/-! ### setcell, fillRect: a code of 0 does nothing -/

@[simp] theorem State.setcell_irqEn (x y code : Nat) : (s.setcell x y code).irqEn = s.irqEn := by unfold State.setcell; split <;> rfl
@[simp] theorem State.setcell_status (x y code : Nat) : (s.setcell x y code).status = s.status := by unfold State.setcell; split <;> rfl
@[simp] theorem State.setcell_cmd (x y code : Nat) : (s.setcell x y code).cmd = s.cmd := by unfold State.setcell; split <;> rfl
@[simp] theorem State.setcell_arg (x y code : Nat) : (s.setcell x y code).arg = s.arg := by unfold State.setcell; split <;> rfl
@[simp] theorem State.setcell_res (x y code : Nat) : (s.setcell x y code).res = s.res := by unfold State.setcell; split <;> rfl
@[simp] theorem State.setcell_height (x y code : Nat) : (s.setcell x y code).height = s.height := by unfold State.setcell; split <;> rfl
@[simp] theorem State.setcell_width (x y code : Nat) : (s.setcell x y code).width = s.width := by unfold State.setcell; split <;> rfl
@[simp] theorem State.setcell_rplane (x y code : Nat) : (s.setcell x y code).rplane = s.rplane := by unfold State.setcell; split <;> rfl
@[simp] theorem State.setcell_poly (x y code : Nat) : (s.setcell x y code).poly = s.poly := by unfold State.setcell; split <;> rfl
@[simp] theorem State.setcell_dram (x y code : Nat) : (s.setcell x y code).dram = s.dram := by unfold State.setcell; split <;> rfl
@[simp] theorem State.setcell_cursor (x y code : Nat) : (s.setcell x y code).cursor = s.cursor := by unfold State.setcell; split <;> rfl
@[simp] theorem State.setcell_stream (x y code : Nat) : (s.setcell x y code).stream = s.stream := by unfold State.setcell; split <;> rfl
@[simp] theorem State.setcell_rdata (x y code : Nat) : (s.setcell x y code).rdata = s.rdata := by unfold State.setcell; split <;> rfl
@[simp] theorem State.setcell_agenda (x y code : Nat) : (s.setcell x y code).agenda = s.agenda := by unfold State.setcell; split <;> rfl
@[simp] theorem State.setcell_fresh (x y code : Nat) : (s.setcell x y code).fresh = s.fresh := by unfold State.setcell; split <;> rfl

@[simp] theorem State.putbit_irqEn (x y : Nat) (b : Bool) : (s.putbit x y b).irqEn = s.irqEn := s.setcell_irqEn x y _
@[simp] theorem State.putbit_status (x y : Nat) (b : Bool) : (s.putbit x y b).status = s.status := s.setcell_status x y _
@[simp] theorem State.putbit_cmd (x y : Nat) (b : Bool) : (s.putbit x y b).cmd = s.cmd := s.setcell_cmd x y _
@[simp] theorem State.putbit_arg (x y : Nat) (b : Bool) : (s.putbit x y b).arg = s.arg := s.setcell_arg x y _
@[simp] theorem State.putbit_res (x y : Nat) (b : Bool) : (s.putbit x y b).res = s.res := s.setcell_res x y _
@[simp] theorem State.putbit_height (x y : Nat) (b : Bool) : (s.putbit x y b).height = s.height := s.setcell_height x y _
@[simp] theorem State.putbit_width (x y : Nat) (b : Bool) : (s.putbit x y b).width = s.width := s.setcell_width x y _
@[simp] theorem State.putbit_rplane (x y : Nat) (b : Bool) : (s.putbit x y b).rplane = s.rplane := s.setcell_rplane x y _
@[simp] theorem State.putbit_poly (x y : Nat) (b : Bool) : (s.putbit x y b).poly = s.poly := s.setcell_poly x y _
@[simp] theorem State.putbit_dram (x y : Nat) (b : Bool) : (s.putbit x y b).dram = s.dram := s.setcell_dram x y _
@[simp] theorem State.putbit_cursor (x y : Nat) (b : Bool) : (s.putbit x y b).cursor = s.cursor := s.setcell_cursor x y _
@[simp] theorem State.putbit_stream (x y : Nat) (b : Bool) : (s.putbit x y b).stream = s.stream := s.setcell_stream x y _
@[simp] theorem State.putbit_rdata (x y : Nat) (b : Bool) : (s.putbit x y b).rdata = s.rdata := s.setcell_rdata x y _
@[simp] theorem State.putbit_agenda (x y : Nat) (b : Bool) : (s.putbit x y b).agenda = s.agenda := s.setcell_agenda x y _
@[simp] theorem State.putbit_fresh (x y : Nat) (b : Bool) : (s.putbit x y b).fresh = s.fresh := s.setcell_fresh x y _

@[simp] theorem State.fillRect_irqEn (x0 y0 w h code : Nat) : (s.fillRect x0 y0 w h code).irqEn = s.irqEn := by unfold State.fillRect; split <;> rfl
@[simp] theorem State.fillRect_status (x0 y0 w h code : Nat) : (s.fillRect x0 y0 w h code).status = s.status := by unfold State.fillRect; split <;> rfl
@[simp] theorem State.fillRect_cmd (x0 y0 w h code : Nat) : (s.fillRect x0 y0 w h code).cmd = s.cmd := by unfold State.fillRect; split <;> rfl
@[simp] theorem State.fillRect_arg (x0 y0 w h code : Nat) : (s.fillRect x0 y0 w h code).arg = s.arg := by unfold State.fillRect; split <;> rfl
@[simp] theorem State.fillRect_res (x0 y0 w h code : Nat) : (s.fillRect x0 y0 w h code).res = s.res := by unfold State.fillRect; split <;> rfl
@[simp] theorem State.fillRect_height (x0 y0 w h code : Nat) : (s.fillRect x0 y0 w h code).height = s.height := by unfold State.fillRect; split <;> rfl
@[simp] theorem State.fillRect_width (x0 y0 w h code : Nat) : (s.fillRect x0 y0 w h code).width = s.width := by unfold State.fillRect; split <;> rfl
@[simp] theorem State.fillRect_rplane (x0 y0 w h code : Nat) : (s.fillRect x0 y0 w h code).rplane = s.rplane := by unfold State.fillRect; split <;> rfl
@[simp] theorem State.fillRect_poly (x0 y0 w h code : Nat) : (s.fillRect x0 y0 w h code).poly = s.poly := by unfold State.fillRect; split <;> rfl
@[simp] theorem State.fillRect_dram (x0 y0 w h code : Nat) : (s.fillRect x0 y0 w h code).dram = s.dram := by unfold State.fillRect; split <;> rfl
@[simp] theorem State.fillRect_cursor (x0 y0 w h code : Nat) : (s.fillRect x0 y0 w h code).cursor = s.cursor := by unfold State.fillRect; split <;> rfl
@[simp] theorem State.fillRect_stream (x0 y0 w h code : Nat) : (s.fillRect x0 y0 w h code).stream = s.stream := by unfold State.fillRect; split <;> rfl
@[simp] theorem State.fillRect_rdata (x0 y0 w h code : Nat) : (s.fillRect x0 y0 w h code).rdata = s.rdata := by unfold State.fillRect; split <;> rfl
@[simp] theorem State.fillRect_agenda (x0 y0 w h code : Nat) : (s.fillRect x0 y0 w h code).agenda = s.agenda := by unfold State.fillRect; split <;> rfl
@[simp] theorem State.fillRect_fresh (x0 y0 w h code : Nat) : (s.fillRect x0 y0 w h code).fresh = s.fresh := by unfold State.fillRect; split <;> rfl

end Sys2Proof.Machine
end

