-- ==== Sys2Proof/Tests/Slice0.lean ====
section
/-! SUPPORT. Tests of the model: the well-formedness check, a word written out from the opcode map for every constructor, one or
two steps per command with results taken from spec/95_test_vectors.md or worked out from the rules, and for every obligation with
hypotheses a state and operands that meet them. -/

namespace Sys2Proof.Tests

open Sys2Proof Sys2Proof.Machine

-- One thread: Lean gives each test that waits for an earlier one a thread and a stack of its own.
set_option Elab.async false

/-! ### Helpers -/

/-- The state after reset with its planes blank, so that every bit of it can be evaluated. -/
def blank : State := { State.reset with dplane := 0#65536, vplane := 0#65536, rplane := 0#65536 }

/-- A state with the ARG registers from ARG0 on. -/
def State.withArgs (s : State) (l : List Word) : State :=
  { s with arg := Vector.ofFn fun i => l.getD i.val 0#32 }

/-- The state with bytes written to DRAM. -/
def State.withBytes (s : State) (a : Nat) (bs : List Byte) : State := s.memWrite a bs

/-- The state one step after the command word `w` is accepted with these ARGs. -/
def perform (w : Nat) (args : List Word) (s : State) : State :=
  match step ((State.withArgs s args).withFetchWord 32 w) with
  | .next t => t
  | .fault _ => s
  | .refused _ => s

/-- RES0 to RES3. -/
def results (s : State) : List Nat := s.res.toList.map fun v => v.toNat

/-- The STATUS word as a number. -/
def status (s : State) : Nat := s.statusWord.toNat

/-- The codes of the cells of the window, row by row. -/
def cells (s : State) : List (List Nat) :=
  (List.range s.height).map fun y => (List.range s.width).map fun x => s.cellcode x y

/-- A polynomial register's bytes. -/
def polyBytes (s : State) (r : PReg) : List Nat := (s.getPoly r).map fun b => b.toNat

/-- DRAM bytes as numbers. -/
def bytes (s : State) (a n : Nat) : List Nat := (s.memRead a n).map fun b => b.toNat

/-- Whether the command performed left the machine at the success end. -/
def ok (s : State) : Bool := s.status.done && !s.status.err && !s.status.busy

/-- A matrix of one colour, every cell drawn. -/
def filled (h w code : Nat) : State :=
  State.fillRect { blank with height := h, width := w } 0 0 w h code

/-! ### Well-formedness -/

theorem test_illformed_euclid_refused : (Instr.pEuclid 2 2 0 1).wellFormed = false := by decide
theorem test_wellformed_euclid_accepted : (Instr.pEuclid 4 5 0 0).wellFormed = true := by decide
theorem test_illformed_euclid_word_rejected : decode 0x0021022A#32 = .error .sameDestination := rfl

/-! ### Decoding: every constructor from its row of the opcode map (30_encoding.md R133) -/

theorem test_decode_system : decode 0x00#32 = .ok .nop ∧ decode 0x01#32 = .ok .sStreamCancel := by and_intros <;> rfl

theorem test_decode_gf :
    decode 0x10#32 = .ok .gfAdd ∧ decode 0x11#32 = .ok .gfMul ∧ decode 0x12#32 = .ok .gfInv ∧
    decode 0x13#32 = .ok .gfPow ∧ decode 0x14#32 = .ok .gfExp ∧ decode 0x15#32 = .ok .gfLog := by and_intros <;> rfl

/-- RD is bits 10:8, RS1 bits 14:12, RS2 bits 18:16, RD2 bits 22:20 (R121). -/
theorem test_decode_poly :
    decode 0b00000000000000000000010100100000#32 = .ok (.pLoad 5) ∧
    decode 0b00000000000000000110000000100001#32 = .ok (.pStore 6) ∧
    decode 0b00000000000000000000011100100010#32 = .ok (.pMono 7) ∧
    decode 0b00000000000000100001001100100011#32 = .ok (.pAdd 3 1 2) ∧
    decode 0b00000000000001110100000100100100#32 = .ok (.pMul 1 4 7) ∧
    decode 0b00000000000000000001001000100101#32 = .ok (.pScale 2 1) ∧
    decode 0b00000000000000000111010100100110#32 = .ok (.pMulmono 5 7) ∧
    decode 0b00000000000000010000011000100111#32 = .ok (.pRem 6 0 1) ∧
    decode 0b00000000000000000100000000101000#32 = .ok (.pEval 4) ∧
    decode 0b00000000000000000000001100101001#32 = .ok (.pGen 3) ∧
    decode 0b00000000010100010000010000101010#32 = .ok (.pEuclid 4 5 0 1) := by and_intros <;> rfl

theorem test_decode_rs :
    decode 0x30#32 = .ok .rsEncode ∧ decode 0x31#32 = .ok .rsSyndrome ∧ decode 0x32#32 = .ok .rsDecode := by and_intros <;> rfl

theorem test_decode_matrix :
    decode 0x40#32 = .ok .mNew ∧ decode 0x41#32 = .ok .mSet ∧ decode 0x42#32 = .ok .mGet ∧ decode 0x43#32 = .ok .mRect ∧
    decode 0x44#32 = .ok .mNegate ∧ decode 0x45#32 = .ok .mTranspose ∧ decode 0x46#32 = .ok .mBorder ∧
    decode 0x47#32 = .ok .mPopcount ∧ decode 0x48#32 = .ok .mCountPattern ∧ decode 0x49#32 = .ok .mCountBoxes ∧
    decode 0x4A#32 = .ok .mAssertDrawn ∧ decode 0x4B#32 = .ok .mPenalty := by and_intros <;> rfl

theorem test_decode_render : decode 0x50#32 = .ok .rRaw ∧ decode 0x51#32 = .ok .rGif := by and_intros <;> rfl

theorem test_decode_layout :
    decode 0x60#32 = .ok .bFormat ∧ decode 0x61#32 = .ok .bVersion ∧ decode 0x62#32 = .ok .bFormatDecode ∧
    decode 0x63#32 = .ok .bVersionDecode ∧ decode 0x64#32 = .ok .lTemplate ∧ decode 0x65#32 = .ok .lReserve ∧
    decode 0x66#32 = .ok .lFormatRead ∧ decode 0x67#32 = .ok .lVersionRead := by and_intros <;> rfl

theorem test_decode_symbol :
    decode 0x70#32 = .ok .lDraw ∧ decode 0x71#32 = .ok .lRead ∧ decode 0x72#32 = .ok .zStart ∧ decode 0x73#32 = .ok .zNext ∧
    decode 0x74#32 = .ok .zPut ∧ decode 0x75#32 = .ok .zGet ∧ decode 0x76#32 = .ok .lMaskApply ∧
    decode 0x77#32 = .ok .lMaskBit := by and_intros <;> rfl

theorem test_decode_rejects :
    decode 0x02#32 = .error .noOpcode ∧ decode 0x78#32 = .error .noOpcode ∧ decode 0x00000100#32 = .error .reservedBits ∧
    decode 0x00510C2A#32 = .error .reservedBits ∧ decode 0x80000000#32 = .error .reservedBits := by and_intros <;> rfl

theorem test_encode_printed_words :
    encode (.pAdd 3 1 2) = 0x00021323#32 ∧ encode (.pEuclid 4 5 0 1) = 0x0051042A#32 ∧ encode (.pEval 4) = 0x00004028#32 := by
  decide

theorem test_table_word : decodeTableWord 32 0x00006021 = some (.pStore 6) ∧ decodeTableWord 8 0x70 = some .lDraw := by decide

/-! ### System and status (95_test_vectors.md L2.1) -/

theorem test_nop : status (perform 0x00 [] blank) = 0x00000002 := by decide +kernel
theorem test_stream_cancel :
    let s := perform 0x01 [] (perform 0x50 [2#32, 4#32] (filled 1 1 2))
    status s = 0x00000002 ∧ s.stream.remain = 0#32 := by decide +kernel
theorem test_illegal_words :
    status (perform 0x02 [] blank) = 0x00000106 ∧ status (perform 0x00000100 [] blank) = 0x00010106 ∧
    status (perform 0x0021022A [] blank) = 0x00020106 := by decide +kernel
theorem test_clear_status :
    status ((perform 0x02 [] blank).writeStatus 2#32) = 0x00000104 ∧
    status (((perform 0x02 [] blank).writeStatus 2#32).writeStatus 4#32) = 0 := by decide +kernel

/-! ### GF(256) (L2.2) -/

theorem test_gf_add : results (perform 0x10 [0x53#32, 0xCA#32] blank) = [0x99, 0, 0, 0] := by decide +kernel
theorem test_gf_mul :
    results (perform 0x11 [0x80#32, 2#32] blank) = [0x1D, 0, 0, 0] ∧
    results (perform 0x11 [0xFF#32, 0xFF#32] blank) = [0xE2, 0, 0, 0] := by decide +kernel
theorem test_gf_inv : results (perform 0x12 [0x20#32] blank) = [0x6C, 0, 0, 0] := by decide +kernel
theorem test_gf_inv_zero : status (perform 0x12 [0#32] blank) = 0x00000806 := by decide +kernel
theorem test_gf_pow :
    results (perform 0x13 [0#32, 0#32] blank) = [1, 0, 0, 0] ∧
    results (perform 0x13 [3#32, 0xFFFFFFFF#32] blank) = [1, 0, 0, 0] := by decide +kernel
theorem test_gf_exp : results (perform 0x14 [256#32] blank) = [2, 0, 0, 0] := by decide +kernel
theorem test_gf_log : results (perform 0x15 [1#32] (blank.setRes 0 9#32)) = [0, 0, 0, 0] := by decide +kernel

/-! ### Polynomials (44_poly.md, L2.3) -/

theorem test_p_load :
    let s := perform 0x120 [0x20#32, 4#32] (State.withBytes blank 0x20 [0#8, 0x13#8, 0x3A#8, 0x10#8])
    polyBytes s 1 = [0x13, 0x3A, 0x10] ∧ results s = [3, 0, 0, 0] := by decide +kernel
theorem test_p_store :
    let s := perform 0x6021 [4094#32] (blank.setPoly 6 [7#8, 9#8])
    bytes s 4094 2 = [7, 9] ∧ results s = [2, 0, 0, 0] := by decide +kernel
theorem test_p_store_past_the_end : status (perform 0x6021 [4095#32] (blank.setPoly 6 [7#8, 9#8])) = 0x00000706 := by
  decide +kernel
theorem test_p_mono : polyBytes (perform 0x22 [4#32, 1#32] blank) 0 = [1, 0, 0, 0, 0] := by decide +kernel
/-- A sum whose leading coefficients cancel is normalised, and a source may be the destination. -/
theorem test_p_add :
    polyBytes (perform 0x00010023 [] ((blank.setPoly 0 [5#8, 1#8, 2#8]).setPoly 1 [5#8, 1#8, 7#8])) 0 = [5] := by
  decide +kernel
/-- `(x + 1)(x + 2) = x² + 3x + 2`. -/
theorem test_p_mul :
    polyBytes (perform 0x00010224 [] ((blank.setPoly 0 [1#8, 1#8]).setPoly 1 [1#8, 2#8])) 2 = [1, 3, 2] := by decide +kernel
theorem test_p_scale : polyBytes (perform 0x00001225 [2#32] (blank.setPoly 1 [0x80#8, 1#8])) 2 = [0x1D, 2] := by decide +kernel
theorem test_p_mulmono : polyBytes (perform 0x00001226 [2#32, 2#32] (blank.setPoly 1 [0x80#8, 1#8])) 2 = [0x1D, 2, 0, 0] := by
  decide +kernel
/-- `x² + 3x + 2` leaves nothing after division by `x + 1`, and `x²` leaves 1. -/
theorem test_p_rem :
    polyBytes (perform 0x00010227 [] ((blank.setPoly 0 [1#8, 3#8, 2#8]).setPoly 1 [1#8, 1#8])) 2 = [0] ∧
    polyBytes (perform 0x00010227 [] ((blank.setPoly 0 [1#8, 0#8, 0#8]).setPoly 1 [1#8, 1#8])) 2 = [1] := by decide +kernel
theorem test_p_rem_by_zero : status (perform 0x00010227 [] blank) = 0x00000A06 := by decide +kernel
theorem test_p_eval : results (perform 0x4028 [2#32] (blank.setPoly 4 [1#8, 3#8, 2#8])) = [0, 0, 0, 0] ∧
    results (perform 0x4028 [0#32] (blank.setPoly 4 [1#8, 3#8, 2#8])) = [2, 0, 0, 0] := by decide +kernel
theorem test_p_gen : polyBytes (perform 0x29 [4#32] blank) 0 = [0x01, 0x0F, 0x36, 0x78, 0x40] := by decide +kernel
/-- Program 2 of Part L3. -/
theorem test_p_euclid :
    let s := perform 0x0051042A [4#32]
      ((blank.setPoly 0 [1#8, 0#8, 0#8, 0#8, 0#8]).setPoly 1 [0x5A#8, 0x13#8, 0x3A#8, 0x10#8])
    polyBytes s 4 = [0x20, 1] ∧ polyBytes s 5 = [0x10] ∧ results s = [1, 1, 0, 0] := by decide +kernel

/-! ### Reed–Solomon (L2.4, L3 program 1) -/

theorem test_rs_encode :
    bytes (perform 0x30 [0#32, 3#32, 4#32, 3#32] (State.withBytes blank 0 [1#8, 2#8, 3#8])) 0 7 =
      [0x01, 0x02, 0x03, 0x8B, 0xF3, 0x8E, 0xF6] := by decide +kernel
theorem test_rs_syndrome :
    let s := perform 0x31 [0#32, 7#32, 4#32, 0x10#32]
      (State.withBytes blank 0 [0x01#8, 0x12#8, 0x03#8, 0x8B#8, 0xF3#8, 0x8E#8, 0x00#8])
    bytes s 0x10 4 = [0xE6, 0xCC, 0xE5, 0xAC] ∧ results s = [1, 0, 0, 0] := by decide +kernel
theorem test_rs_decode :
    let s := perform 0x32 [0#32, 7#32, 4#32]
      (State.withBytes blank 0 [0x01#8, 0x12#8, 0x03#8, 0x8B#8, 0xF3#8, 0x8E#8, 0x00#8])
    bytes s 0 7 = [0x01, 0x02, 0x03, 0x8B, 0xF3, 0x8E, 0xF6] ∧ results s = [2, 1, 0, 0] := by decide +kernel
theorem test_rs_decode_fails :
    let s := perform 0x32 [0#32, 7#32, 4#32]
      (State.withBytes blank 0 [0xFE#8, 0xFD#8, 0xFC#8, 0x8B#8, 0xF3#8, 0x8E#8, 0xF6#8])
    status s = 0x00020B06 ∧ bytes s 0 3 = [0xFE, 0xFD, 0xFC] := by decide +kernel

/-! ### The matrix (L2.5, L3 program 5) -/

theorem test_m_new :
    (perform 0x40 [256#32, 256#32] blank).mdimWord = 0x01000100#32 ∧ status (perform 0x40 [0#32, 5#32] blank) = 0x00000506 := by
  decide +kernel
theorem test_m_set :
    cells (perform 0x41 [0xFFFFFFFD#32, 0xFFFFFFFE#32, 2#32] (perform 0x40 [2#32, 3#32] blank)) = [[2, 0, 0], [0, 0, 0]] := by
  decide +kernel
theorem test_m_set_error_order :
    status (perform 0x41 [300#32, 0#32, 3#32] (perform 0x40 [21#32, 21#32] blank)) = 0x00000506 := by decide +kernel
theorem test_m_get : results (perform 0x42 [1#32, 1#32] (filled 2 2 2)) = [2, 0, 0, 0] := by decide +kernel
theorem test_m_rect :
    cells (perform 0x43 [1#32, 0#32, 100#32, 100#32, 1#32]
      (perform 0x41 [0#32, 0#32, 2#32] (perform 0x40 [2#32, 3#32] blank))) = [[2, 1, 1], [0, 1, 1]] := by decide +kernel
theorem test_m_negate :
    cells (perform 0x44 [] (State.setcell (State.setcell { blank with height := 2, width := 3 } 0 0 2) 2 1 1)) =
      [[1, 2, 2], [2, 2, 2]] := by decide +kernel
theorem test_m_transpose :
    cells (perform 0x45 [] (State.setcell (State.setcell { blank with height := 2, width := 3 } 0 0 2) 2 1 1)) =
      [[2, 0], [0, 0], [0, 1]] := by decide +kernel
theorem test_m_border :
    cells (perform 0x46 [1#32, 2#32] (perform 0x40 [1#32, 2#32] blank)) =
      [[2, 2, 2, 2], [2, 0, 0, 2], [2, 2, 2, 2]] := by decide +kernel
theorem test_m_popcount : results (perform 0x47 [] (filled 2 3 2)) = [6, 0, 0, 0] := by decide +kernel
theorem test_m_count_pattern :
    results (perform 0x48 [0#32, 2#32, 3#32, 4#32, 1#32] (filled 1 5 2)) = [4, 0, 0, 0] ∧
    status (perform 0x48 [0#32, 2#32, 3#32, 4#32, 2#32] (filled 1 5 2)) = 0x00030606 := by decide +kernel
theorem test_m_count_boxes :
    results (perform 0x49 [0#32] (filled 2 3 1)) = [2, 0, 0, 0] ∧ status (perform 0x49 [1#32] (filled 2 3 1)) = 0x00000506 := by
  decide +kernel
theorem test_m_assert_drawn :
    status (perform 0x4A [] (filled 2 3 1)) = 2 ∧ status (perform 0x4A [] (perform 0x40 [2#32, 3#32] blank)) = 0x00010C06 := by
  decide +kernel
/-- The row `#.###.#....` of L2.9. -/
theorem test_m_penalty :
    results (perform 0x4B [] (((((filled 1 11 1).setcell 0 0 2).setcell 2 0 2).setcell 3 0 2).setcell 4 0 2 |>.setcell 6 0 2)) =
      [40, 0, 0, 40] := by decide +kernel

/-! ### Rendering (L2.6) -/

theorem test_r_raw :
    let s := perform 0x50 [1#32, 4#32] (filled 1 1 2)
    results s = [4, 0, 0, 0] ∧ status s = 0x00000012 ∧
    ((s.sdataReads 5).1.map fun v => v.toNat) = [0x100, 0x100, 0x100, 0x1FF, 0] := by decide +kernel
theorem test_r_gif :
    let s := perform 0x51 [1#32] (filled 1 1 2)
    results s = [415, 0, 0, 0] ∧ ((s.sdataReads 11).1.map fun v => v.toNat) =
      [0x147, 0x149, 0x146, 0x138, 0x137, 0x161, 0x101, 0x100, 0x101, 0x100, 0x1F6] := by decide +kernel
theorem test_gif_tail : ((List.range 7).map fun i => ((filled 1 1 2).gifByte 1 (408 + i)).toNat) =
    [0x02, 0x80, 0x01, 0x01, 0x81, 0x00, 0x3B] := by decide +kernel

/-! ### BCH codes and the layout (L2.7, L2.8) -/

theorem test_b_format : results (perform 0x60 [3#32, 6#32] blank) = [0x2EDA, 0, 0, 0] ∧
    status (perform 0x60 [4#32, 8#32] blank) = 0x00000406 := by decide +kernel
theorem test_b_version : results (perform 0x61 [40#32] blank) = [0x28C69, 0, 0, 0] ∧
    status (perform 0x61 [6#32] blank) = 0x00000206 := by decide +kernel
theorem test_b_format_decode :
    results (perform 0x62 [0x3558#32, 0x7FFF#32] blank) = [3, 0, 3, 0] ∧
    status (perform 0x62 [0x3550#32, 0x35AF#32] blank) = 0x00040D06 := by decide +kernel
theorem test_b_version_decode :
    results (perform 0x63 [0x07C95#32, 0#32] blank) = [7, 0, 1, 0] ∧
    status (perform 0x63 [0x0C76D#32, 0x3FFFF#32] blank) = 0x00040E06 := by decide +kernel
theorem test_l_template :
    let s := perform 0x64 [1#32, 1#32, 0#32, 0#32] blank
    results s = [21, 208, 0, 0] ∧ s.mdimWord = 0x00150015#32 ∧ Plane.word s.rplane 0 = 0x001FE1FF#32 := by decide +kernel
theorem test_l_reserve :
    let s := perform 0x65 [2#32] (blank.setRes 1 77#32)
    results s = [359, 77, 0, 0] ∧ Plane.word s.rplane 0 = 0x01FE01FF#32 := by decide +kernel
theorem test_l_format_read :
    results (perform 0x66 [] (perform 0x64 [1#32, 1#32, 0#32, 0#32] blank)) = [1, 0, 0, 0x77C477C4] := by decide +kernel
theorem test_l_version_read :
    results (perform 0x67 [] (perform 0x64 [7#32, 2#32, 5#32, 0#32] blank)) = [7, 0x07C94, 0, 0x07C94] := by decide +kernel

/-! ### Masks, drawing, reading (L2.9, L2.10) -/

theorem test_l_mask_bit :
    results (perform 0x77 [5#32, 5#32, 3#32] (blank.setRes 0 9#32)) = [0, 0, 0, 0] ∧
    results (perform 0x77 [7#32, 4#32, 2#32] blank) = [1, 0, 0, 0] := by decide +kernel
/-- Mask 0 inverts the drawn, unreserved cell (0, 0) and leaves the unset cell and the cell (0, 1). -/
theorem test_l_mask_apply :
    cells (perform 0x76 [0#32] (State.setcell (State.setcell { blank with height := 2, width := 2 } 0 0 2) 0 1 2)) =
      [[1, 0], [2, 0]] := by decide +kernel

/-- The symbol of two bytes FF 00 with mask 2 (L2.10). -/
def drawn2 : State := perform 0x70 [1#32, 1#32, 2#32, 0#32, 2#32] (State.withBytes blank 0 [0xFF#8, 0x00#8])

theorem test_l_draw : results drawn2 = [2, 0, 0, 0] ∧ drawn2.mdimWord = 0x00150015#32 ∧ ok drawn2 = true := by decide +kernel
theorem test_l_read : bytes (perform 0x71 [1#32, 2#32, 0x10#32, 3#32] drawn2) 0x10 3 = [0xFF, 0, 0] := by decide +kernel

/-! ### The zig-zag sequencer (L2.11) -/

/-- The template of version 1 with a walk started on mask 0. -/
def walking : State := perform 0x72 [0#32] (perform 0x64 [1#32, 1#32, 0#32, 0#32] blank)

theorem test_z_start : walking.zstateWord = 0x00081414#32 := by decide +kernel
theorem test_z_next :
    let s := perform 0x73 [] walking
    results s = [20, 20, 1, 0] ∧ s.zstateWord = 0x000A1414#32 := by decide +kernel
theorem test_z_put :
    let s := perform 0x74 [1#32] (perform 0x73 [] walking)
    results s = [19, 20, 0, 1] ∧ s.cellcode 19 20 = 2 ∧ s.zstateWord = 0x00081314#32 := by decide +kernel
theorem test_z_get :
    status (perform 0x75 [] walking) = 0x00010C06 ∧
    results (perform 0x75 [] (walking.setcell 20 20 2)) = [20, 20, 1, 0] := by decide +kernel

/-! ### Reset, host port (L2.1, L2.12) -/

theorem test_soft_reset_keeps_dram :
    let s := (perform 0x14 [5#32] (State.withBytes blank 0 [0xAB#8, 0#8, 0#8, 0#8])).writeIdle 1#14 0xF#4 3#32
    s.dramWord 0 = 0xAB#32 ∧ s.irqEn = false ∧ results s = [0, 0, 0, 0] := by decide +kernel
theorem test_overrun :
    let s := blank.accept 0#32
    status s = 1 ∧
    (match s.hostWrite 3#14 0xF#4 0x11#32 with
      | .next t => status t == 9 && t.cmd == 0#32
      | .fault _ => false
      | .refused _ => false) = true := by decide +kernel
theorem test_dram_window_little_endian :
    (State.withBytes blank 0 [0x01#8, 0x02#8, 0x03#8, 0x8B#8]).dramWord 0 = 0x8B030201#32 := by decide +kernel


/-! ### Witnesses: for every obligation with hypotheses, a state and operands that meet them together -/

/-- Whether a command answers a next state with the property `p`. -/
def ends (i : Instr) (s : State) (p : State → Bool) : Bool :=
  match exec i s with
  | .next t => p t
  | .fault _ => false
  | .refused _ => false

/-- What `ends` says: there is a next state, and it has the property. -/
theorem ends_next {i : Instr} {s : State} {p : State → Bool} (h : ends i s p = true) : ∃ t, exec i s = .next t ∧ p t = true := by
  unfold ends at h
  cases e : exec i s with
  | next t => exact ⟨t, rfl, by simpa [e] using h⟩
  | fault f => simp [e] at h
  | refused r => simp [e] at h

/-- A 21 × 21 matrix, every cell light, no cell reserved, with a walk just started. -/
def openWalk : State := perform 0x72 [0#32] (filled 21 21 1)

/-- An armed raw stream of one 1 × 1 dark matrix: four bytes. -/
def armed : State := perform 0x50 [1#32, 4#32] (filled 1 1 2)

theorem blank_inv : blank.Inv where
  dram := rfl
  dims := ⟨by decide, by decide⟩
  polys := by decide +kernel
  status := by decide
  cursor := ⟨by decide, by decide, by decide⟩
  stream := ⟨by decide, by decide, by decide⟩

/-- In flight the invariant holds too. -/
theorem busy_inv : (blank.accept 0#32).Inv where
  dram := rfl
  dims := ⟨by decide, by decide⟩
  polys := by decide +kernel
  status := by decide
  cursor := ⟨by decide, by decide, by decide⟩
  stream := ⟨by decide, by decide, by decide⟩

/-- For every `reportsErrors` of a statement, a state in which a check of that command fails: every ARG at 0x7FFFFFFF, and for the
others a matrix that is not there or not drawn, or no valid cursor. -/
theorem witness_reportsErrors :
    (let s := State.withArgs (filled 2 2 1) (List.replicate 8 0x7FFFFFFF#32)
     (∀ i ∈ ([.pScale 0 1, .pEval 1, .pGen 0, .pMono 0, .pMulmono 0 1, .rRaw, .rGif, .zPut] : List Instr),
       s.firstError i = some ⟨.operandRange, 0#8⟩) ∧
     (∀ i ∈ ([.pLoad 0, .rsSyndrome, .rsDecode] : List Instr), s.firstError i = some ⟨.operandRange, 1#8⟩) ∧
     (∀ i ∈ ([.mNew, .mSet, .mGet, .mRect, .mBorder, .mCountPattern, .mCountBoxes] : List Instr),
       s.firstError i = some ⟨.outOfBounds, 0#8⟩) ∧
     (∀ i ∈ ([.bVersion, .lTemplate, .lReserve, .lDraw, .lRead] : List Instr), s.firstError i = some ⟨.invalidVersion, 0#8⟩) ∧
     (∀ i ∈ ([.zStart, .lMaskBit, .lMaskApply] : List Instr), s.firstError i = some ⟨.invalidMask, 0#8⟩) ∧
     (∀ i ∈ ([.bFormatDecode, .bVersionDecode] : List Instr), s.firstError i = some ⟨.operandRange, 0#8⟩) ∧
     (∀ i ∈ ([.lFormatRead, .lVersionRead] : List Instr), s.firstError i = some ⟨.layoutMismatch, 3#8⟩) ∧
     (∀ i ∈ ([.zNext, .zGet] : List Instr), s.firstError i = some ⟨.layoutMismatch, 4#8⟩) ∧
     s.firstError (.pStore 0) = some ⟨.addressRange, 0#8⟩ ∧ s.firstError .rsEncode = some ⟨.operandRange, 2#8⟩ ∧
     s.firstError .bFormat = some ⟨.invalidEcc, 0#8⟩) ∧
    blank.firstError .mPenalty = some ⟨.layoutMismatch, 5#8⟩ ∧
    (State.withArgs blank [0x3550#32, 0x35AF#32]).firstError .bFormatDecode = some ⟨.wrongFormatPattern, 4#8⟩ ∧
    (State.withArgs blank [0x0C76D#32, 0x3FFFF#32]).firstError .bVersionDecode = some ⟨.wrongVersionPattern, 4#8⟩ := by
  decide +kernel

theorem witness_DecodeOfEncode :
    (Instr.pEuclid 7 6 7 7).wellFormed = true ∧ Instr.lMaskBit.wellFormed = true := by decide

theorem witness_EncodeOfDecode : decode 0x0067772A#32 = .ok (.pEuclid 7 6 7 7) ∧ decode 0x77#32 = .ok .lMaskBit := ⟨rfl, rfl⟩

theorem witness_DecodeRejections :
    decode 0x78#32 = .error .noOpcode ∧ decode 0x80000077#32 = .error .reservedBits ∧
    decode 0x0077772A#32 = .error .sameDestination := ⟨rfl, rfl, rfl⟩

theorem witness_StepRunsDecodedCommand :
    let s := blank.accept 0x77#32
    s.status.busy = true ∧ decode s.cmd = .ok .lMaskBit ∧ s.agenda = [] ∧
    { s with agenda := [.block] }.agenda = [.block] ∧
    { s with agenda := [.host (.read 2#14)] }.agenda = [.host (.read 2#14)] ∧ blank.status.busy = false ∧ blank.agenda = [] ∧
    { blank with agenda := [.block] }.status.busy = false := by and_intros <;> rfl

theorem witness_IllegalCommandEnds :
    let s := blank.accept 0xFF#32
    s.status.busy = true ∧ s.agenda = [] ∧ { s with agenda := [.block] }.agenda = .block :: [] ∧
    decode s.cmd = .error .noOpcode ∧ decode (blank.accept 0x100#32).cmd = .error .reservedBits ∧
    decode (blank.accept 0x0021022A#32).cmd = .error .sameDestination := by and_intros <;> rfl

theorem witness_EveryCommandEnds :
    blank.status.err = false ∧ (ends .nop blank fun t => !t.status.err) = true ∧ blank.firstError .nop = none ∧ (2#32).getLsbD 1 = true := by decide +kernel

theorem witness_ErrorEndChangesOnlyStatus :
    (blank.accept 0x12#32).status.err = false ∧
    (∃ t, (blank.accept 0x12#32).runCommand = .next t ∧ t.status.err = true) ∧
    (∃ t, (blank.accept 0x02#32).runCommand = .next t ∧ t.status.err = true) :=
  ⟨rfl, ⟨_, rfl, rfl⟩, ⟨_, rfl, rfl⟩⟩

theorem witness_FrameOfRegisters : (ends .gfExp blank fun _ => true) = true := by decide +kernel

/-- P_STORE of one byte at the last address: the addresses 0 and 4094 lie outside the range written. -/
theorem witness_FrameOfDram :
    let s := State.withArgs blank [4095#32]
    (ends (.pStore 0) s fun t => !t.status.err) = true ∧ s.dramReach (.pStore 0) = (4095, 1) ∧ 4094 < (s.dramReach (.pStore 0)).1 ∧
    (s.dramReach (.pStore 0)).1 + (s.dramReach (.pStore 0)).2 ≤ 4096 := by decide +kernel

theorem witness_FrameOfMatrix :
    blank.Inv ∧ (ends .nop blank fun t => !t.status.err) = true ∧
    (effects .nop).dims = false ∧ (effects .nop).matrix = false ∧ (effects .nop).rsv = false ∧ (effects .mTranspose).dims = true ∧
    (ends .mTranspose blank fun t => !t.status.err) = true ∧ blank.status.err = false ∧ ¬ (255 < blank.width ∧ 0 < blank.height) :=
  ⟨blank_inv, by decide +kernel, by decide +kernel, by decide +kernel, by decide +kernel, by decide +kernel, by decide +kernel,
    by decide +kernel, by decide +kernel⟩

theorem witness_StreamCancellation :
    armed.status.err = false ∧ (ends (.pRem 0 0 0) armed fun t => t.status.err) = true ∧
    (ends .mNegate armed fun t => !t.status.err) = true ∧ (effects .mNegate).matrix = true ∧
    (effects .gfExp).matrix = false ∧ (effects .gfExp).arms = false := by decide +kernel

theorem witness_CursorInvalidation :
    openWalk.status.err = false ∧ (ends .mTranspose openWalk fun t => !t.status.err) = true ∧
    (effects .mTranspose).invalidates = true ∧ (ends .gfInv openWalk fun t => t.status.err) = true ∧
    (effects .mNegate).invalidates = false ∧ (effects .mNegate).cursor = false := by decide +kernel

theorem witness_SoftReset :
    blank.status.busy = false ∧ (2#32).getLsbD 1 = true ∧ (1#32).getLsbD 1 = false ∧ (0x7#4 ≠ 0xF#4) := by decide +kernel

/-- In flight: P_STORE, which writes no plane and one byte of DRAM, M_NEW, which sets H and W, and a word that does not decode. -/
theorem witness_SoftResetInFlight :
    let s := (State.withArgs blank [4095#32]).accept 0x21#32
    s.status.busy = true ∧ (2#32).getLsbD 1 = true ∧ decode s.cmd = .ok (.pStore 0) ∧ 4094 < (s.dramReach (.pStore 0)).1 ∧
    (effects (.pStore 0)).matrix = false ∧ (effects (.pStore 0)).rsv = false ∧ (effects (.pStore 0)).dims = false ∧
    ¬ (255 < s.width ∧ 0 < s.height) ∧ decode (blank.accept 0x40#32).cmd = .ok .mNew ∧
    decode (blank.accept 0xFF#32).cmd = .error .noOpcode := by and_intros <;> first | rfl | decide +kernel

theorem witness_StepKeepsInvariant : blank.Inv ∧ step blank = .next blank := ⟨blank_inv, rfl⟩

theorem witness_CommandWrite :
    blank.status.busy = false ∧ (blank.accept 0#32).status.busy = true ∧ (0xE#4 ≠ 0xF#4) := by decide +kernel

theorem witness_StatusRegister : blank.status.busy = false ∧ (0x7#4 ≠ 0xF#4) := by decide +kernel

theorem witness_FieldWords :
    blank.Inv ∧ blank.status.busy = false ∧ (blank.accept 0#32).Inv ∧ (blank.accept 0#32).status.busy = true ∧ 31 < 32 :=
  ⟨blank_inv, rfl, busy_inv, rfl, by decide⟩

/-- The first and the last offset of each range. -/
theorem witness_ReadsAndIgnoredWrites :
    (20 ≤ (20#14).toNat ∧ (20#14).toNat < 0x400) ∧ (20 ≤ (0x3FF#14).toNat ∧ (0x3FF#14).toNat < 0x400) ∧
    0x2000 ≤ (0x2000#14).toNat ∧ 0x2000 ≤ (0x3FFF#14).toNat ∧ (0#14).toNat = 0 ∧ 12 ≤ (12#14).toNat ∧ (19#14).toNat < 20 ∧
    blank.status.busy = false ∧ 0x400#14 ≠ sdataOffset ∧ (blank.accept 0#32).status.busy = true ∧ 4 ≤ (4#14).toNat ∧
    (11#14).toNat < 12 ∧ 0x400 ≤ (0x400#14).toNat ∧ (0x1FFF#14).toNat < 0x2000 := by decide +kernel

/-- The two outcomes of such a write while BUSY at the ends of its ranges. -/
theorem test_write_while_busy :
    (blank.accept 0#32).hostWrite 4#14 1#4 0#32 = .refused .hostWriteWhileBusy ∧
    (blank.accept 0#32).hostWrite 0x1FFF#14 8#4 0#32 = .refused .hostWriteWhileBusy ∧
    (blank.accept 0#32).hostWrite 0x400#14 0#4 0#32 = .next (blank.accept 0#32) := by and_intros <;> rfl

theorem witness_ArgAndDramWindows :
    blank.status.busy = false ∧ (1023 < 1024 ∧ 3 < 4) ∧ (7 : Fin 8) ≠ 0 ∧ 4095 < 4 * 1023 + 4 ∧ 4091 < 4 * 1023 := by decide +kernel

theorem witness_PlaneWindows : blank.status.busy = false ∧ 255 < 256 := by decide +kernel

theorem witness_SdataRead :
    armed.status.busy = false ∧ armed.stream.stale = false ∧ armed.stream.remain ≠ 0#32 ∧ blank.stream.remain = 0#32 ∧
    blank.stream.stale = false ∧ (armed.stalen 1#4).stream.stale = true ∧ (armed.stalen 1#4).stream.remain ≠ 0#32 := by
  decide +kernel

/-- Each clause at the ends of its operand range. -/
theorem witness_GfResults :
    (let s := State.withArgs blank [255#32, 255#32]
     s.argv 0 ≤ 255 ∧ s.argv 1 ≤ 255 ∧ 1 ≤ s.argv 0) ∧
    255 < (State.withArgs blank [256#32, 0#32]).argv 0 ∧ 255 < (State.withArgs blank [255#32, 256#32]).argv 1 ∧
    blank.argv 0 = 0 := by decide +kernel

theorem witness_GfTables : (254 < 255) ∧ (0xFF#8 ≠ 0#8) := by decide

theorem witness_GfFieldLaws : (0xFF#8 ≠ 0#8) ∧ 255 ∣ 510 := by decide

theorem witness_PolyLoadStore :
    (let s := State.withArgs blank [3840#32, 256#32]
     1 ≤ s.argv 1 ∧ s.argv 1 ≤ 256 ∧ s.argv 0 + s.argv 1 ≤ 4096) ∧
    (let s := State.withArgs blank [4095#32]
     s.argv 0 + (s.getPoly 7).length ≤ 4096 ∧ polyHeld (s.getPoly 7)) := by decide +kernel

theorem witness_PolyArithmeticResults :
    let s := State.withArgs blank [255#32, 255#32]
    s.argv 0 ≤ 255 ∧ s.argv 1 ≤ 255 := by decide +kernel

theorem witness_PolyCoefficients : polyHeld [3#8, 0#8] ∧ polyHeld [0#8] ∧ 0 < 1 := by decide +kernel

theorem witness_PolyProducts :
    let s := State.withArgs (blank.setPoly 1 [1#8, 2#8]) [255#32, 255#32]
    polyHeld (s.getPoly 0) ∧ polyHeld (s.getPoly 1) ∧ s.argv 0 ≤ 255 ∧ s.argv 1 ≤ 255 := by decide +kernel

/-- Each check of the two commands failing, at the first value it refuses: ARG0, ARG1 and the length of a product. -/
theorem witness_PolyProducts_errors :
    (State.withArgs blank [256#32, 256#32]).firstError (.pMulmono 0 1) = some ⟨.operandRange, 0#8⟩ ∧
    (State.withArgs blank [255#32, 256#32]).firstError (.pMulmono 0 1) = some ⟨.operandRange, 1#8⟩ ∧
    (let s := State.withArgs (blank.setPoly 1 [1#8, 2#8]) [255#32, 1#32]
     s.firstError (.pMulmono 0 1) = some ⟨.polyOverflow, 0#8⟩ ∧ polyHeld (s.getPoly 1)) ∧
    (let s := (blank.setPoly 1 [1#8, 2#8]).setPoly 2 (pmono 255 1#8)
     s.firstError (.pMul 0 1 2) = some ⟨.polyOverflow, 0#8⟩ ∧ polyHeld (s.getPoly 2)) := by decide +kernel

theorem witness_PolyRemainder :
    let s := blank.setPoly 1 [1#8, 2#8]
    polyHeld (s.getPoly 0) ∧ polyHeld (s.getPoly 1) ∧ s.getPoly 1 ≠ [0#8] ∧ s.getPoly 0 = [0#8] := by decide +kernel

/-- Program 2 of Part L3; a stop bound of 0; and `x²`, `x` with bound 1, for which the last `t` is `x`. -/
theorem witness_PolyEuclid :
    let s := State.withArgs ((blank.setPoly 0 [1#8, 0#8, 0#8, 0#8, 0#8]).setPoly 1 [0x5A#8, 0x13#8, 0x3A#8, 0x10#8]) [4#32]
    polyHeld (s.getPoly 0) ∧ polyHeld (s.getPoly 1) ∧
    euclid (s.getPoly 0) (s.getPoly 1) (s.argv 0) = .ok ([0x20#8, 1#8], [0x10#8], 1) ∧ blank.argv 0 = 0 ∧
    euclid [1#8, 0#8, 0#8] [1#8, 0#8] 1 = .error ⟨.rsUndecodable, 2#8⟩ ∧ (1#32).toNat ≠ 0 :=
  ⟨by decide +kernel, by decide +kernel, rfl, by decide +kernel, rfl, by decide⟩

theorem witness_RsEncodeMakesCodeword :
    let s := State.withArgs blank [3871#32, 225#32, 30#32, 4066#32]
    s.argv 2 ≤ 30 ∧ s.argv 1 + s.argv 2 ≤ 255 ∧ s.argv 0 + s.argv 1 ≤ 4096 ∧ s.argv 3 + s.argv 2 ≤ 4096 ∧ 29 < s.argv 2 := by
  decide +kernel

theorem witness_RsSyndromeResult :
    let s := State.withArgs blank [3841#32, 255#32, 30#32, 4066#32]
    1 ≤ s.argv 1 ∧ s.argv 1 ≤ 255 ∧ s.argv 2 ≤ 30 ∧ s.argv 0 + s.argv 1 ≤ 4096 ∧ s.argv 3 + s.argv 2 ≤ 4096 := by decide +kernel

/-- The received word of L2.4, two bytes from its codeword with `k = 4`; the codeword itself; and a word the decoding function
refuses: each in the last seven bytes of DRAM. -/
theorem witness_RsDecodeResult :
    (let s := State.withArgs (State.withBytes blank 4089 [0x01#8, 0x12#8, 0x03#8, 0x8B#8, 0xF3#8, 0x8E#8, 0x00#8])
      [4089#32, 7#32, 4#32]
     1 ≤ s.argv 1 ∧ s.argv 1 ≤ 255 ∧ s.argv 2 ≤ 30 ∧ s.argv 0 + s.argv 1 ≤ 4096 ∧
     (match rsDecode (s.memRead (s.argv 0) (s.argv 1)) (s.argv 2) with
      | .ok (_, n, f) => n == 2 && f == 1
      | .error _ => false) = true ∧
     (let w := [0x01#8, 0x02#8, 0x03#8, 0x8B#8, 0xF3#8, 0x8E#8, 0xF6#8]
      w.length = s.argv 1 ∧ (∀ i, i < s.argv 2 → peval w (gexp i) = 0#8) ∧
      ((List.range (s.argv 1)).countP fun j => w.getD j 0#8 != (s.memRead (s.argv 0) (s.argv 1)).getD j 0#8) = s.argv 2 / 2)) ∧
    (let s := State.withArgs (State.withBytes blank 4089 [0xFE#8, 0xFD#8, 0xFC#8, 0x8B#8, 0xF3#8, 0x8E#8, 0xF6#8])
      [4089#32, 7#32, 4#32]
     (match rsDecode (s.memRead (s.argv 0) (s.argv 1)) (s.argv 2) with
      | .ok _ => false
      | .error e => e == ⟨.rsUndecodable, 2#8⟩) = true) ∧
    (let s := State.withArgs (State.withBytes blank 4089 [0x01#8, 0x02#8, 0x03#8, 0x8B#8, 0xF3#8, 0x8E#8, 0xF6#8])
      [4089#32, 7#32, 4#32]
     ∀ i, i < s.argv 2 → peval (s.memRead (s.argv 0) (s.argv 1)) (gexp i) = 0#8) := by decide +kernel

theorem witness_CoordinateResolution :
    resolve 255#32 256 = some 255 ∧ resolve 0xFFFFFF00#32 256 = some 0 ∧ resolve 256#32 256 = none ∧ resolve 0#32 0 = none := by
  decide +kernel

theorem witness_MatrixCellCommands :
    (let s := State.withArgs (filled 256 256 1) [0xFFFFFFFF#32, 0xFFFFFF00#32, 2#32, 0xFFFFFFFF#32, 2#32]
     s.height ≤ 256 ∧ s.width ≤ 256 ∧ resolve s.arg[0] s.width = some 255 ∧ resolve s.arg[1] s.height = some 0 ∧
     s.argv 2 ≤ 2 ∧ s.argv 4 ≤ 2) ∧
    (let s := State.withArgs (filled 2 2 1) [1#32, 2#32, 3#32]
     2 < s.argv 2 ∧ resolve s.arg[0] s.width = some 1 ∧ resolve s.arg[1] s.height = none) ∧
    resolve (2#32) (filled 2 2 1).width = none := by decide +kernel

theorem witness_MatrixNegateAndAssert :
    (let s := filled 1 1 2
     s.height ≤ 256 ∧ s.width ≤ 256 ∧ (∀ x, x < s.width → ∀ y, y < s.height → Plane.get s.dplane x y = true)) ∧
    (let s := { blank with height := 256, width := 256 }
     s.height ≤ 256 ∧ s.width ≤ 256 ∧ 255 < s.width ∧ 255 < s.height ∧ Plane.get s.dplane 255 255 = false) := by decide +kernel

/-- A border of 1 around 254 × 254, and a new matrix of the greatest size. -/
theorem witness_MatrixNewTransposeBorder :
    (let s := State.withArgs { blank with height := 254, width := 254 } [1#32, 2#32]
     s.height ≤ 256 ∧ s.width ≤ 256 ∧ s.height + 2 * s.argv 0 ≤ 256 ∧ s.width + 2 * s.argv 0 ≤ 256 ∧
     1 ≤ s.argv 0 ∧ s.argv 0 ≤ 256 ∧ 1 ≤ s.argv 1 ∧ s.argv 1 ≤ 2) ∧
    (let s := State.withArgs blank [256#32, 256#32]
     1 ≤ s.argv 0 ∧ s.argv 0 ≤ 256 ∧ 1 ≤ s.argv 1 ∧ s.argv 1 ≤ 256) := by decide +kernel

theorem witness_MatrixIdentities :
    let s := State.withArgs (filled 2 3 1) [2#32, 1#32, 2#32]
    s.height ≤ 256 ∧ s.width ≤ 256 ∧ s.status.err = false ∧ s.argv 2 ≠ 0 ∧ (ends .mSet s fun t => !t.status.err) = true ∧
    s.drawn = true ∧ (State.withArgs s []).argv 2 = 0 := by decide +kernel

theorem witness_MatrixCounts :
    (let s := State.withArgs (filled 2 31 1) [1#32, 31#32, 0x7FFFFFFF#32, 0#32, 2#32]
     resolve s.arg[0] s.height = some 1 ∧ 1 ≤ s.argv 1 ∧ s.argv 1 ≤ 31 ∧ s.argv 2 < 2 ^ s.argv 1 ∧
     (s.argv 4 = 1 ∨ (s.argv 4 = 2 ∧ s.argv 3 < 2 ^ s.argv 1))) ∧
    (let s := filled 2 31 1
     resolve s.arg[0] s.height = some 0 ∧ 0 + 1 < s.height) := by decide +kernel

/-- A matrix of one colour, and one of three cells of which none is dark. -/
theorem witness_PenaltyResult :
    let s := filled 1 2 2
    1 ≤ s.height ∧ 1 ≤ s.width ∧ s.drawn = true ∧ countCells s.width s.height s.dark = s.height * s.width ∧
    (let u := (filled 1 2 1).setcell 0 0 2
     45 * (u.height * u.width) < 100 * countCells u.width u.height u.dark ∧
     100 * countCells u.width u.height u.dark < 55 * (u.height * u.width)) := by decide +kernel

theorem witness_SystemAndRenderResults :
    let s := State.withArgs (filled 1 1 2) [1024#32, 4#32]
    1 ≤ s.height ∧ 1 ≤ s.width ∧ s.drawn = true ∧ 1 ≤ s.argv 0 ∧ s.argv 0 ≤ 1024 ∧ (s.argv 1 = 3 ∨ s.argv 1 = 4) ∧
    s.width * s.argv 0 * (s.height * s.argv 0) * s.argv 1 < 2 ^ 32 ∧ s.width * s.argv 0 ≤ 65535 ∧
    s.height * s.argv 0 ≤ 65535 ∧ s.gifLen (s.argv 0) < 2 ^ 32 := by decide +kernel

theorem witness_StreamDeliversSequence :
    armed.Inv ∧ armed.status.busy = false ∧ armed.stream.kind ≠ .none ∧ armed.stream.pos = 0#32 ∧ armed.stream.stale = false where
  left :=
    { dram := by decide +kernel
      dims := by decide +kernel
      polys := by decide +kernel
      status := by decide +kernel
      cursor := by unfold State.cursorWf; decide +kernel
      stream := by unfold State.streamWf; decide +kernel }
  right := by decide +kernel

theorem witness_BchAndSymbolReadResults :
    (let s := State.withArgs blank [3#32, 7#32]
     s.argv 0 ≤ 3 ∧ s.argv 1 ≤ 7) ∧
    (let s := State.withArgs blank [40#32]
     7 ≤ s.argv 0 ∧ s.argv 0 ≤ 40) ∧
    (let s := State.withArgs blank [0x3558#32, 0x7FFF#32]
     s.argv 0 ≤ 0x7FFF ∧ s.argv 1 ≤ 0x7FFF) ∧
    (let s := State.withArgs blank [0x07C95#32, 0x3FFFF#32]
     s.argv 0 ≤ 0x3FFFF ∧ s.argv 1 ≤ 0x3FFFF) ∧
    (let s := perform 0x64 [7#32, 2#32, 5#32, 0#32] blank
     s.height = s.width ∧ isSymbolSize s.width = true ∧ 45 ≤ s.width ∧
     s.readBits 15 fmt1 = fmtcode 2 5 ∧ s.readBits 18 (ver1 s.width) = vercode 7) ∧
    (filled 21 21 1).width < 45 := by decide +kernel

theorem witness_BchAndSymbolReadResults_decoded :
    fmtdecode 0x3558 0x7FFF = .ok ((3, 0), 3) ∧ verdecode 0x07C95 0x3FFFF = .ok (7, 1) ∧
    fmtdecode (fmtcode 2 5) (fmtcode 2 5) = .ok ((2, 5), 0) ∧ verdecode (vercode 7) (vercode 7) = .ok (7, 0) := by
  and_intros <;> rfl

theorem witness_BchDecodersCorrect :
    hammingDist (fmtcode 3 7) (fmtcode 3 7 ^^^ 7) = 3 ∧ fmtcode 3 7 ^^^ 7 < 2 ^ 15 ∧
    hammingDist (vercode 40) (vercode 40 ^^^ 7) = 3 ∧ vercode 40 ^^^ 7 < 2 ^ 18 := by decide +kernel

/-- One copy three bits from its code, the other farther than three from every code. -/
theorem witness_BchDecodersCorrect_one_copy :
    (copyDist (fmtcode 3 0) 0x3558 0x7FFF ≤ 3 ∧
     ∀ e', e' ≤ 3 → ∀ m', m' ≤ 7 → (e', m') ≠ (3, 0) →
      copyDist (fmtcode 3 0) 0x3558 0x7FFF < copyDist (fmtcode e' m') 0x3558 0x7FFF) ∧
    (copyDist (vercode 7) 0x07C95 0x3FFFF ≤ 3 ∧
     ∀ v', v' ≤ 40 → 7 ≤ v' → v' ≠ 7 → copyDist (vercode 7) 0x07C95 0x3FFFF < copyDist (vercode v') 0x07C95 0x3FFFF) := by
  decide +kernel

theorem witness_TemplateResults :
    let s := State.withArgs blank [40#32, 3#32, 7#32, 1#32]
    1 ≤ s.argv 0 ∧ s.argv 0 ≤ 40 ∧ s.argv 1 ≤ 3 ∧ s.argv 2 ≤ 7 ∧ s.argv 3 ≤ 1 := by decide +kernel

theorem witness_TemplateReadsBack :
    let s := State.withArgs blank [1#32, 3#32, 7#32, 0#32]
    1 ≤ s.argv 0 ∧ s.argv 0 ≤ 40 ∧ s.argv 1 ≤ 3 ∧ s.argv 2 ≤ 7 ∧ s.argv 3 = 0 ∧ (ends .lTemplate s fun _ => true) = true ∧
    (State.withArgs blank [1#32, 3#32, 7#32, 1#32]).argv 3 = 1 ∧
    (ends .lTemplate (State.withArgs blank [1#32, 3#32, 7#32, 1#32]) fun _ => true) = true := by decide +kernel

theorem witness_MaskResults :
    let s := State.withArgs (filled 2 2 2) [7#32, 255#32, 255#32]
    s.height ≤ 256 ∧ s.width ≤ 256 ∧ s.argv 0 ≤ 7 ∧ s.argv 1 ≤ 255 ∧ s.argv 2 ≤ 255 := by decide +kernel

/-- Version 1 holds 208 bits, so 26 bytes, here the last of DRAM. -/
theorem witness_DrawResult :
    let s := State.withArgs blank [1#32, 3#32, 8#32, 4070#32, 26#32]
    1 ≤ s.argv 0 ∧ s.argv 0 ≤ 40 ∧ s.argv 1 ≤ 3 ∧ s.argv 2 ≤ 8 ∧ s.argv 3 + s.argv 4 ≤ 4096 ∧
    8 * s.argv 4 ≤ capacity (s.argv 0) ∧ (State.withArgs blank [1#32, 3#32, 7#32]).argv 2 ≤ 7 ∧ s.argv 2 = 8 := by decide +kernel

theorem witness_ReadResult :
    let s := State.withArgs (filled 21 21 2) [1#32, 7#32, 4070#32, 26#32]
    1 ≤ s.argv 0 ∧ s.argv 0 ≤ 40 ∧ s.argv 1 ≤ 7 ∧ s.height = 17 + 4 * s.argv 0 ∧ s.width = 17 + 4 * s.argv 0 ∧
    s.argv 2 + s.argv 3 ≤ 4096 ∧ 8 * s.argv 3 ≤ capacity (s.argv 0) ∧
    (∀ c ∈ (zz (s.argv 0)).take (8 * s.argv 3), Plane.get s.dplane c.1 c.2 = true) := by decide +kernel

theorem witness_DrawThenRead :
    let s := State.withArgs (State.withBytes blank 4094 [0xFF#8, 0x00#8]) [1#32, 1#32, 2#32, 4094#32, 2#32]
    1 ≤ s.argv 0 ∧ s.argv 0 ≤ 40 ∧ s.argv 1 ≤ 3 ∧ s.argv 2 ≤ 8 ∧ s.argv 3 + s.argv 4 ≤ 4096 ∧
    8 * s.argv 4 ≤ capacity (s.argv 0) ∧ (4094#32).toNat + s.argv 4 ≤ 4096 ∧ (ends .lDraw s fun t => !t.status.err) = true := by
  decide +kernel

theorem witness_SeekFindsDataCell : openWalk.cursorWf ∧ openWalk.cursor.valid = true :=
  ⟨by unfold State.cursorWf; decide +kernel, by decide +kernel⟩

/-- The start, a data cell with a defined cell under it, and the end of the walk. -/
theorem witness_SequencerResults :
    (let s := State.withArgs openWalk [7#32]
     s.argv 0 ≤ 7 ∧ s.height = s.width ∧ isSymbolSize s.width = true) ∧
    (let s := State.withArgs openWalk [1#32]
     s.cursor.valid = true ∧ s.sought.done = false ∧ s.argv 0 ≤ 1 ∧
     Plane.get s.dplane s.sought.cell.1 s.sought.cell.2 = true) ∧
    (let s := { openWalk with cursor := { openWalk.cursor with xo := 1, y := 20, dir := .down, j := true, done := true } }
     s.cursor.valid = true ∧ s.sought.done = true) := by decide +kernel

theorem witness_StepFunctionWalks : isSymbolSize 21 = true ∧ isSymbolSize 177 = true := by decide

theorem witness_NextListsDataModules :
    let s := State.withArgs { filled 21 21 1 with rplane := rmap 1 } [7#32]
    s.height = 17 + 4 * 1 ∧ s.width = 17 + 4 * 1 ∧ s.rplane = rmap 1 ∧ s.argv 0 ≤ 7 ∧
    (ends .zStart s fun t => !t.status.err) = true := by decide +kernel

/-- With no matrix, two states that differ in a plane bit outside the window; with a 1 × 1 matrix, two that differ in the V bit of
its unset cell. -/
theorem witness_UnseenPlaneBits :
    blank.Inv ∧ ({ blank with dplane := 1#65536 } : State).Inv ∧ State.SameInWindow blank { blank with dplane := 1#65536 } ∧
    State.SameCells { blank with height := 1, width := 1 } { blank with height := 1, width := 1, vplane := 1#65536 } ∧
    Instr.nop ≠ .mNegate := by
  refine ⟨blank_inv, ⟨by decide, by decide, by decide +kernel, by decide, ⟨by decide, by decide, by decide⟩,
    ⟨by decide, by decide, by decide⟩⟩, ⟨by decide +kernel, ?_⟩, ⟨by decide +kernel, ?_⟩, ?_⟩
  · intro x y hx hy
    exact absurd hx (Nat.not_lt_zero x)
  · intro x y hx hy
    have hx : x = 0 := by have : x < 1 := hx; omega
    have hy : y = 0 := by have : y < 1 := hy; omega
    subst hx; subst hy
    exact ⟨by decide +kernel, by decide +kernel⟩
  · decide

end Sys2Proof.Tests
end

section
/-! PROOFS of the statements on the state and the host port (10_state.md). What a command may write is said once (`Writes`,
`exec_cases`); the frames and the invariant follow by induction on it. What no command sees is one relation (`State.Alike`)
that every command keeps. -/

namespace Sys2Proof.Machine

/-! ### Polynomials held in registers (10_state.md R49) -/

theorem gfExpAt_ne_zero : ∀ i, i < 255 → gfExpAt i ≠ 0#8 := by decide +kernel

/-- GF(256) has no zero divisors (43_gf.md R263). -/
theorem gmul_ne_zero {a b : Byte} (ha : a ≠ 0#8) (hb : b ≠ 0#8) : gmul a b ≠ 0#8 := by
  rw [gmul, if_neg (by simp [ha, hb])]
  exact gfExpAt_ne_zero _ (Nat.mod_lt _ (by decide))

theorem polyLead_ne_zero {p : Poly} (h : polyHeld p) (hz : polyIsZero p = false) : polyLead p ≠ 0#8 := by
  obtain ⟨_, _, h1 | h1⟩ := h
  · obtain ⟨c, rfl⟩ := List.length_eq_one_iff.1 h1
    simpa [polyIsZero, polyLead] using hz
  · exact h1

theorem polyHeld_single (c : Byte) : polyHeld [c] := ⟨by simp, by simp [Config.polyLenMax], .inl rfl⟩

theorem polyNorm_length_le (p : Poly) : (polyNorm p).length ≤ p.length := by
  fun_induction polyNorm p with
  | case1 => simp
  | case2 c => simp
  | case3 d l ih => simp only [List.length_cons] at *; omega
  | case4 c d l h => simp

theorem polyNorm_normal (p : Poly) (hp : p ≠ []) :
    1 ≤ (polyNorm p).length ∧ ((polyNorm p).length = 1 ∨ polyLead (polyNorm p) ≠ 0#8) := by
  fun_induction polyNorm p with
  | case1 => exact absurd rfl hp
  | case2 c => simp
  | case3 d l ih => exact ih (by simp)
  | case4 c d l h => simp [polyLead, h]

/-- `norm` makes a byte list that fits a register a polynomial it may hold (00_scope.md R14). -/
theorem polyHeld_polyNorm {p : Poly} (h1 : 1 ≤ p.length) (h2 : p.length ≤ Config.polyLenMax) : polyHeld (polyNorm p) :=
  have ⟨hpos, hlead⟩ := polyNorm_normal p (List.length_pos_iff.1 h1)
  ⟨hpos, Nat.le_trans (polyNorm_length_le p) h2, hlead⟩

theorem polyHeld_padd {a b : Poly} (ha : 1 ≤ a.length) (ha' : a.length ≤ Config.polyLenMax)
    (hb' : b.length ≤ Config.polyLenMax) : polyHeld (padd a b) := by
  have hlen : (List.zipWith gadd (zeroBytes (max a.length b.length - a.length) ++ a)
      (zeroBytes (max a.length b.length - b.length) ++ b)).length = max a.length b.length := by
    simp only [zeroBytes, List.length_zipWith, List.length_append, List.length_replicate]
    omega
  exact polyHeld_polyNorm (by omega) (by omega)

theorem polyHeld_pscale {a : Poly} (c : Byte) (ha : polyHeld a) : polyHeld (pscale a c) := by
  unfold pscale
  split
  · exact polyHeld_single _
  · exact polyHeld_polyNorm (by simpa using ha.1) (by simpa using ha.2.1)

theorem polyHeld_pmono {d : Nat} (c : Byte) (hd : d ≤ 255) : polyHeld (pmono d c) := by
  unfold pmono
  split
  · exact polyHeld_single _
  · next hc => exact ⟨by simp, by simp [zeroBytes, Config.polyLenMax]; omega, .inr hc⟩

theorem polyRawMul_length (a b : Poly) (hb : 1 ≤ b.length) : (polyRawMul a b).length = a.length + b.length - 1 := by
  induction a with
  | nil => simp [polyRawMul, zeroBytes]
  | cons c a ih => simp [polyRawMul, zeroBytes, ih]; omega

theorem polyLead_polyRawMul (c d : Byte) (a b : Poly) : polyLead (polyRawMul (c :: a) (d :: b)) = gmul c d := by
  simp [polyRawMul, polyLead, gadd]

/-- A product without overflow has the product of the leading coefficients first, so it needs no normalisation (44_poly.md
R294). -/
theorem polyHeld_polyRawMul {a b : Poly} (ha : 1 ≤ a.length) (hb : 1 ≤ b.length) (hla : polyLead a ≠ 0#8)
    (hlb : polyLead b ≠ 0#8) (hlen : a.length + b.length - 1 ≤ Config.polyLenMax) : polyHeld (polyRawMul a b) := by
  have hl := polyRawMul_length a b hb
  obtain ⟨c, a, rfl⟩ := List.exists_cons_of_length_pos ha
  obtain ⟨d, b, rfl⟩ := List.exists_cons_of_length_pos hb
  exact ⟨by omega, by omega, .inr (polyLead_polyRawMul c d a b ▸ gmul_ne_zero hla hlb)⟩

theorem polyHeld_pmul {a b p : Poly} (ha : polyHeld a) (hb : polyHeld b) (h : pmul a b = .ok p) : polyHeld p := by
  unfold pmul at h
  split at h
  · exact Except.ok.inj h ▸ polyHeld_single _
  · next hz =>
    simp only [Bool.or_eq_true, not_or, Bool.not_eq_true] at hz
    split at h
    · next hlen =>
      exact Except.ok.inj h ▸ polyHeld_polyRawMul ha.1 hb.1 (polyLead_ne_zero ha hz.1) (polyLead_ne_zero hb hz.2) hlen
    · cases h

theorem polyShift_length (a : Poly) (d : Nat) (c : Byte) : (polyShift a d c).length = a.length + d := by
  simp [polyShift, zeroBytes]

theorem polyHeld_pmulmono {a p : Poly} {d : Nat} {c : Byte} (ha : polyHeld a) (h : pmulmono a d c = .ok p) : polyHeld p := by
  unfold pmulmono at h
  split at h
  · exact Except.ok.inj h ▸ polyHeld_single _
  · next hz =>
    simp only [Bool.or_eq_true, decide_eq_true_eq, not_or, Bool.not_eq_true] at hz
    split at h
    · next hlen =>
      have hlead := polyLead_ne_zero ha hz.2
      have hl := polyShift_length a d c
      obtain ⟨x, a, rfl⟩ := List.exists_cons_of_length_pos ha.1
      exact Except.ok.inj h ▸ ⟨by omega, by omega, .inr (gmul_ne_zero hlead hz.1)⟩
    · cases h

theorem polyHeld_divLoop {n : Nat} {b : Poly} {inv : Byte} {q r : Poly} (hb : polyHeld b) (hq : polyHeld q)
    (hr : polyHeld r) : polyHeld (divLoop n b inv q r).1 ∧ polyHeld (divLoop n b inv q r).2 := by
  induction n generalizing q r with
  | zero => exact ⟨hq, hr⟩
  | succ n ih =>
    rw [divLoop]
    split
    · next hc =>
      have hdeg : polyDeg b ≤ polyDeg r := by simpa using (Bool.and_eq_true_iff.1 hc).2
      have hr2 := hr.2.1
      have hs := polyShift_length b (polyDeg r - polyDeg b) (gmul (polyLead r) inv)
      simp only [polyDeg, Config.polyLenMax] at hdeg hr2 hs
      have hm := polyHeld_pmono (gmul (polyLead r) inv) (show polyDeg r - polyDeg b ≤ 255 by simp only [polyDeg]; omega)
      exact ih (polyHeld_padd hq.1 hq.2.1 hm.2.1)
        (polyHeld_padd hr.1 hr.2.1 (by simp only [polyDeg, Config.polyLenMax]; omega))
    · exact ⟨hq, hr⟩

theorem polyHeld_pdivmod {a b q r : Poly} (ha : polyHeld a) (hb : polyHeld b) (h : pdivmod a b = .ok (q, r)) :
    polyHeld q ∧ polyHeld r := by
  unfold pdivmod at h
  split at h
  · cases h
  · have := polyHeld_divLoop (n := a.length) (inv := ginv (polyLead b)) hb (polyHeld_single 0#8) ha
    rwa [Except.ok.inj h] at this

theorem polyHeld_euclidLoop {bound n steps steps' : Nat} {rl r tl t t' r' : Poly} (hrl : polyHeld rl) (hr : polyHeld r)
    (htl : polyHeld tl) (ht : polyHeld t) (h : euclidLoop bound n rl r tl t steps = .ok (t', r', steps')) :
    polyHeld t' ∧ polyHeld r' := by
  induction n generalizing rl r tl t steps with
  | zero =>
    cases h
    exact ⟨ht, hr⟩
  | succ n ih =>
    rw [euclidLoop] at h
    split at h
    · split at h
      · cases h
      · split at h
        · cases h
        · next q rem hdiv =>
          have ⟨hq, hrem⟩ := polyHeld_pdivmod hrl hr hdiv
          split at h
          · cases h
          · next qt hmul =>
            have hqt := polyHeld_pmul hq ht hmul
            exact ih hr hrem ht (polyHeld_padd hqt.1 hqt.2.1 htl.2.1) h
    · cases h
      exact ⟨ht, hr⟩

theorem polyHeld_euclid {a b lam omega : Poly} {bound steps : Nat} (ha : polyHeld a) (hb : polyHeld b)
    (h : euclid a b bound = .ok (lam, omega, steps)) : polyHeld lam ∧ polyHeld omega := by
  have key : ∀ {a b : Poly}, polyHeld a → polyHeld b → euclidOrdered a b bound = .ok (lam, omega, steps) →
      polyHeld lam ∧ polyHeld omega := by
    intro a b ha hb h
    unfold euclidOrdered at h
    split at h
    · cases h
    · next t r steps' hloop =>
      have ⟨ht, hr⟩ := polyHeld_euclidLoop ha hb (polyHeld_single _) (polyHeld_single _) hloop
      dsimp only at h
      split at h
      · cases h
      · cases h
        exact ⟨polyHeld_pscale _ ht, polyHeld_pscale _ hr⟩
  unfold euclid at h
  split at h
  · exact key hb ha h
  · exact key ha hb h

theorem pgen_length (k : Nat) : (pgen k).length = k + 1 := by
  induction k with
  | zero => rfl
  | succ k ih => rw [pgen, polyRawMul_length _ _ (by simp), ih]; simp

theorem polyLead_pgen_ne_zero (k : Nat) : polyLead (pgen k) ≠ 0#8 := by
  induction k with
  | zero => decide
  | succ k ih =>
    obtain ⟨c, a, hc⟩ := List.exists_cons_of_length_pos (l := pgen k) (by rw [pgen_length]; omega)
    rw [hc] at ih
    rw [pgen, hc, polyLead_polyRawMul]
    exact gmul_ne_zero ih (by decide)

theorem polyHeld_pgen {k : Nat} (hk : k ≤ 255) : polyHeld (pgen k) :=
  ⟨by rw [pgen_length]; omega, by rw [pgen_length, Config.polyLenMax]; omega, .inr (polyLead_pgen_ne_zero k)⟩

end Sys2Proof.Machine
end

section
namespace Sys2Proof.Machine

/-! ### Symbols stay inside their matrix (46_layout_bch.md R378 to R386) -/

/-- Nothing of the canvas lies outside the `n × n` matrix. -/
def Canvas.Within (c : Canvas) (n : Nat) : Prop :=
  ∀ x y, ¬ (x < n ∧ y < n) → Plane.get c.d x y = false ∧ Plane.get c.v x y = false

section
variable {n : Nat} {c : Canvas}

theorem Canvas.within_blank : Canvas.blank.Within n := fun _ _ _ => ⟨Plane.get_zero _ _, Plane.get_zero _ _⟩

theorem Canvas.within_put {x y : Nat} {b : Bool} (hc : c.Within n) (hx : x < n) (hy : y < n) : (c.put x y b).Within n := by
  intro x' y' h
  have hne : ¬ (x < 256 ∧ y < 256 ∧ x' = x ∧ y' = y) := by omega
  simpa [Canvas.put, Plane.get_set, hne] using hc x' y' h

/-- A loop over a list whose every round keeps the canvas in the matrix keeps it there. -/
theorem Canvas.within_foldl {α : Type} {l : List α} {f : Canvas → α → Canvas} (hc : c.Within n)
    (hf : ∀ c : Canvas, c.Within n → ∀ a ∈ l, (f c a).Within n) : (l.foldl f c).Within n :=
  List.foldlRecOn l f hc hf

theorem Canvas.within_draw {ps : List Put} (hc : c.Within n) (hp : ∀ p ∈ ps, p.1 < n ∧ p.2.1 < n) : (c.draw ps).Within n :=
  Canvas.within_foldl hc fun _ hc p hmem => Canvas.within_put hc (hp p hmem).1 (hp p hmem).2

/-- The cells of a square are clipped to the matrix (R379, R381). -/
theorem squarePuts_lt {r cx cy : Nat} {ring : Nat → Bool} {p : Put} (hp : p ∈ squarePuts n r cx cy ring) :
    p.1 < n ∧ p.2.1 < n := by
  simp only [squarePuts, List.mem_flatMap, List.mem_filterMap, List.mem_range, Option.ite_none_right_eq_some,
    Option.some.injEq] at hp
  obtain ⟨j, _, i, _, hin, rfl⟩ := hp
  constructor <;> dsimp only <;> omega

theorem Canvas.within_stampAlignment {v : Nat} (hc : c.Within (symbolSize v)) :
    (c.stampAlignment v).Within (symbolSize v) := by
  refine Canvas.within_foldl hc fun c hc y _ => Canvas.within_foldl hc fun c hc x _ => ?_
  split
  · exact hc
  · exact Canvas.within_draw hc fun p hp => squarePuts_lt hp

theorem Canvas.within_stampTiming (hn : 6 < n) (hc : c.Within n) : (c.stampTiming n).Within n := by
  refine Canvas.within_foldl (Canvas.within_foldl hc fun c hc x hx => ?_) fun c hc y hy => ?_
  · split
    · exact hc
    · exact Canvas.within_put hc (List.mem_range.1 hx) hn
  · split
    · exact hc
    · exact Canvas.within_put hc hn (List.mem_range.1 hy)

theorem fmt1_lt {i : Nat} (hn : 21 ≤ n) : (fmt1 i).1 < n ∧ (fmt1 i).2 < n := by
  unfold fmt1
  repeat' split
  all_goals exact ⟨by dsimp only; omega, by dsimp only; omega⟩

theorem fmt2_lt {i : Nat} (hn : 21 ≤ n) (hi : i < 15) : (fmt2 n i).1 < n ∧ (fmt2 n i).2 < n := by
  unfold fmt2
  repeat' split
  all_goals exact ⟨by dsimp only; omega, by dsimp only; omega⟩

theorem ver1_lt {i : Nat} (hn : 21 ≤ n) (hi : i < 18) : (ver1 n i).1 < n ∧ (ver1 n i).2 < n := by
  constructor <;> simp only [ver1] <;> omega

theorem ver2_lt {i : Nat} (hn : 21 ≤ n) (hi : i < 18) : (ver2 n i).1 < n ∧ (ver2 n i).2 < n := (ver1_lt hn hi).symm

theorem Canvas.within_stampFormat {code : Nat} {test : Bool} (hn : 21 ≤ n) (hc : c.Within n) :
    (c.stampFormat n code test).Within n := by
  refine Canvas.within_put (Canvas.within_foldl hc fun c hc i hi => ?_) (by omega) (by omega)
  have h1 := fmt1_lt (i := i) hn
  have h2 := fmt2_lt hn (List.mem_range.1 hi)
  exact Canvas.within_put (Canvas.within_put hc h1.1 h1.2) h2.1 h2.2

theorem Canvas.within_stampVersion {code : Nat} {test : Bool} (hn : 21 ≤ n) (hc : c.Within n) :
    (c.stampVersion n code test).Within n := by
  refine Canvas.within_foldl hc fun c hc i hi => ?_
  have h1 := ver1_lt hn (List.mem_range.1 hi)
  have h2 := ver2_lt hn (List.mem_range.1 hi)
  exact Canvas.within_put (Canvas.within_put hc h1.1 h1.2) h2.1 h2.2

theorem le_symbolSize {v : Nat} (hv : 1 ≤ v) : 21 ≤ symbolSize v := by
  unfold symbolSize
  omega

theorem symbolSize_le {v : Nat} (hv : v ≤ Config.versionMax) : symbolSize v ≤ Config.matDimMax := by
  simp only [Config.versionMax, symbolSize, Config.matDimMax] at *
  omega

theorem template_within {v ecc mask : Nat} {test : Bool} (hv : 1 ≤ v) : (template v ecc mask test).Within (symbolSize v) := by
  have hn := le_symbolSize hv
  have hfind : ∀ {cx cy : Nat}, ∀ p ∈ finderPuts (symbolSize v) cx cy, p.1 < symbolSize v ∧ p.2.1 < symbolSize v :=
    fun p hp => squarePuts_lt hp
  have hfinders := Canvas.within_draw (Canvas.within_draw (Canvas.within_draw Canvas.within_blank
    (hfind (cx := 3) (cy := 3))) (hfind (cx := symbolSize v - 4) (cy := 3))) (hfind (cx := 3) (cy := symbolSize v - 4))
  have hformat := Canvas.within_stampFormat (code := fmtcode ecc mask) (test := test) hn
    (Canvas.within_stampTiming (by omega) (Canvas.within_stampAlignment hfinders))
  simp only [template]
  split
  · exact Canvas.within_stampVersion hn hformat
  · exact hformat

/-! ### The walk stays inside the matrix (47_mask_zigzag.md R440) -/

theorem walkFrom_lt {k xo : Nat} {up : Bool} {p : Nat × Nat} (hxo : xo < n) (hp : p ∈ walkFrom n k xo up) :
    p.1 < n ∧ p.2 < n := by
  induction k generalizing xo up with
  | zero => simp [walkFrom] at hp
  | succ k ih =>
    rw [walkFrom] at hp
    split at hp
    · have hx : (if xo = 6 then 5 else xo) < n := by split <;> omega
      rcases List.mem_append.1 hp with hp | hp
      · have hy : ∀ y, (y ∈ if up = true then (List.range n).reverse else List.range n) → y < n := by
          intro y hy
          split at hy <;> simpa using hy
        simp only [walkPair, List.mem_flatMap, List.mem_cons, List.not_mem_nil, or_false] at hp
        obtain ⟨y, hmem, rfl | rfl⟩ := hp
        · exact ⟨hx, hy y hmem⟩
        · exact ⟨by dsimp only; omega, hy y hmem⟩
      · exact ih (by omega) hp
    · cases hp

theorem zz_lt {v : Nat} {p : Nat × Nat} (hp : p ∈ zz v) : p.1 < symbolSize v ∧ p.2 < symbolSize v :=
  walkFrom_lt (by unfold symbolSize; omega) (List.mem_filter.1 hp).1

theorem Canvas.within_place {m : Nat} {cells : List (Nat × Nat)} {bits : List Bool} (hc : c.Within n)
    (hp : ∀ p ∈ cells, p.1 < n ∧ p.2 < n) : (Canvas.place m cells bits c).Within n := by
  induction cells generalizing bits c with
  | nil => exact hc
  | cons p cells ih =>
    have ⟨hx, hy⟩ := hp p List.mem_cons_self
    exact ih (Canvas.within_put hc hx hy) fun q hq => hp q (List.mem_cons_of_mem _ hq)

theorem symbolCanvas_within {v ecc m : Nat} {test : Bool} {data : List Byte} (hv : 1 ≤ v) :
    (symbolCanvas v ecc m test data).Within (symbolSize v) :=
  Canvas.within_place (template_within hv) fun _ hp => zz_lt hp

end

end Sys2Proof.Machine
end

section
namespace Sys2Proof.Machine

/-! ### What a command that ends successfully has written -/

/-- The states a command may have made of `s` when it ends successfully: from `s` itself, a cancelled stream, a change of cells, a
new matrix or a new RSV, by writes of the registers its rule names, of its destination range, of the cursor and of the stream. -/
inductive Writes (i : Instr) (s : State) : State → Prop where
  | refl (hm : (effects i).matrix = false) (hr : (effects i).invalidates = false) (hi : i ≠ .sStreamCancel) : Writes i s s
  | cancel (hi : i = .sStreamCancel) : Writes i s s.cancelStream
  | cells (d v : Plane) (hm : (effects i).matrix = true) (hd : (effects i).dims = false)
      (hr : (effects i).invalidates = false)
      (hframe : s.Inv → ∀ x y, ¬ (x < s.width ∧ y < s.height) →
        Plane.get d x y = Plane.get s.dplane x y ∧ Plane.get v x y = Plane.get s.vplane x y) :
      Writes i s (State.cancelStream { s with dplane := d, vplane := v })
  | matrix (h w : Nat) (d v r : Plane) (hd : (effects i).dims = true) (hm : (effects i).matrix = true)
      (hr : (effects i).rsv = true) (hi : (effects i).invalidates = true)
      (hdims : s.Inv → h ≤ Config.matDimMax ∧ w ≤ Config.matDimMax)
      (hout : ∀ x y, ¬ (x < w ∧ y < h) → Plane.get d x y = false ∧ Plane.get v x y = false) :
      Writes i s (s.setMatrix h w d v r).cancelStream.invalidateCursor
  | reserve (r : Plane) (hm : (effects i).matrix = false) (hr : (effects i).rsv = true)
      (hi : (effects i).invalidates = true) : Writes i s (State.invalidateCursor { s with rplane := r })
  | setRes {u : State} (k : Fin 4) (n : Nat) (hu : Writes i s u) (hk : k ∈ (effects i).res) : Writes i s (u.setResNat k n)
  | setPoly {u : State} (r : PReg) (p : Poly) (hu : Writes i s u) (hr : r ∈ (effects i).poly)
      (hp : (∀ q : PReg, polyHeld (s.getPoly q)) → polyHeld p) : Writes i s (u.setPoly r p)
  | memory {u : State} (bs : List Byte) (hu : Writes i s u) (hlen : bs.length = (s.dramReach i).2)
      (hrange : (s.dramReach i).1 + bs.length ≤ Config.dramBytes) : Writes i s (u.memWrite (s.dramReach i).1 bs)
  | moveCursor {u : State} (c : Cursor) (hu : Writes i s u) (hc : (effects i).cursor = true)
      (hv : i ≠ .zStart → c.valid = s.cursor.valid) (hwf : s.Inv → State.cursorWf { u with cursor := c }) :
      Writes i s { u with cursor := c }
  | arm {u : State} (st : Stream) (hu : Writes i s u) (ha : (effects i).arms = true)
      (hwf : s.Inv → State.streamWf { u with stream := st }) : Writes i s { u with stream := st }

/-- The rule ends by `finish`, and what it answers is a state the command may write. -/
def Performs (i : Instr) (s : State) (o : Outcome) : Prop := ∃ r, o = s.finish r ∧ Result.Post (Writes i s) r

section
variable {s : State} {i : Instr}

/-- A command that writes RES0 alone. -/
theorem Writes.res0 (n : Nat) (hm : (effects i).matrix = false) (hr : (effects i).invalidates = false)
    (hi : i ≠ .sStreamCancel) (hk : (effects i).res = [0]) : Writes i s (s.setResNat 0 n) :=
  .setRes 0 n (.refl hm hr hi) (by simp [hk])

/-- A command that writes one polynomial register and its length to RES0. -/
theorem Writes.putPoly (rd : PReg) (p : Poly) (hm : (effects i).matrix = false) (hr : (effects i).invalidates = false)
    (hi : i ≠ .sStreamCancel) (hk : (effects i).res = [0]) (hrd : (effects i).poly = [rd])
    (hp : (∀ q : PReg, polyHeld (s.getPoly q)) → polyHeld p) : Writes i s (s.putPoly rd p) :=
  .setRes 0 _ (.setPoly rd p (.refl hm hr hi) (by simp [hrd]) hp) (by simp [hk])

/-- A command that writes its destination range of DRAM and RES0. -/
theorem Writes.memory0 (bs : List Byte) (n : Nat) (hm : (effects i).matrix = false) (hr : (effects i).invalidates = false)
    (hi : i ≠ .sStreamCancel) (hk : 0 ∈ (effects i).res) (hlen : bs.length = (s.dramReach i).2)
    (hrange : (s.dramReach i).1 + bs.length ≤ Config.dramBytes) :
    Writes i s ((s.memWrite (s.dramReach i).1 bs).setResNat 0 n) :=
  .setRes 0 n (.memory bs (.refl hm hr hi) hlen hrange) hk

theorem Writes.setCursorRes {u : State} (a b c d : Nat) (hu : Writes i s u) (hk : (effects i).res = [0, 1, 2, 3]) :
    Writes i s (u.setCursorRes a b c d) :=
  .setRes 3 d (.setRes 2 c (.setRes 1 b (.setRes 0 a hu (by simp [hk])) (by simp [hk])) (by simp [hk])) (by simp [hk])

/-- A change of D and V bits of the window, told by the state it gives. -/
theorem Writes.ofCells {u : State} (hu : u = { s with dplane := u.dplane, vplane := u.vplane })
    (hm : (effects i).matrix = true) (hd : (effects i).dims = false) (hr : (effects i).invalidates = false)
    (hframe : s.Inv → ∀ x y, ¬ (x < s.width ∧ y < s.height) →
      Plane.get u.dplane x y = Plane.get s.dplane x y ∧ Plane.get u.vplane x y = Plane.get s.vplane x y) :
    Writes i s u.cancelStream := by
  rw [hu]
  exact .cells _ _ hm hd hr hframe

end

/-! #### Cells of the window -/

section
variable (s : State)

theorem State.setcell_eq (x y code : Nat) : s.setcell x y code =
    { s with dplane := (s.setcell x y code).dplane, vplane := (s.setcell x y code).vplane } := by
  unfold State.setcell
  split <;> rfl

theorem State.fillRect_eq (x0 y0 w h code : Nat) : s.fillRect x0 y0 w h code =
    { s with dplane := (s.fillRect x0 y0 w h code).dplane, vplane := (s.fillRect x0 y0 w h code).vplane } := by
  unfold State.fillRect
  split <;> rfl

/-- `setcell` changes no cell but its own. -/
theorem State.setcell_get_of_ne {x y : Nat} (code : Nat) {x' y' : Nat} (h : ¬ (x' = x ∧ y' = y)) :
    Plane.get (s.setcell x y code).dplane x' y' = Plane.get s.dplane x' y' ∧
      Plane.get (s.setcell x y code).vplane x' y' = Plane.get s.vplane x' y' := by
  by_cases hc : code = 0
  · simp [State.setcell, hc]
  · have hne : ¬ (x < 256 ∧ y < 256 ∧ x' = x ∧ y' = y) := fun e => h e.2.2
    simpa [hne] using State.setcell_cell_get s x y code hc x' y'

/-- A merge changes no bit outside the window. -/
theorem Plane.get_mergeOn_of_outside (p : Plane) {w h : Nat} (sel f : Nat → Nat → Bool) {x y : Nat} (hout : ¬ (x < w ∧ y < h)) :
    Plane.get (Plane.mergeOn p w h sel f) x y = Plane.get p x y := by
  rw [Plane.get_mergeOn, if_neg fun hin => hout ⟨hin.1.1, hin.1.2.1⟩]

theorem State.fillRect_get_of_outside (x0 y0 w h code : Nat) {x y : Nat} (hout : ¬ (x < s.width ∧ y < s.height)) :
    Plane.get (s.fillRect x0 y0 w h code).dplane x y = Plane.get s.dplane x y ∧
      Plane.get (s.fillRect x0 y0 w h code).vplane x y = Plane.get s.vplane x y := by
  unfold State.fillRect
  split
  · exact ⟨rfl, rfl⟩
  · exact ⟨Plane.get_mergeOn_of_outside _ _ _ hout, Plane.get_mergeOn_of_outside _ _ _ hout⟩

/-- A plane built from a window is 0 outside it. -/
theorem Plane.get_ofWindow_of_outside {w h : Nat} (f : Nat → Nat → Bool) {x y : Nat} (hout : ¬ (x < w ∧ y < h)) :
    Plane.get (Plane.ofWindow w h f) x y = false := by
  rw [Plane.get_ofWindow, decide_eq_false fun hin => hout ⟨hin.1, hin.2.1⟩, Bool.false_and]

end

/-! #### The cursor (47_mask_zigzag.md R441, R442) -/

/-- The cursor's column pair and row lie in the `n × n` matrix. -/
def Cursor.Within (c : Cursor) (n : Nat) : Prop := 1 ≤ c.xo ∧ c.xo < n ∧ c.y < n

theorem Cursor.nextPair_valid (c : Cursor) : c.nextPair.valid = c.valid := by
  unfold Cursor.nextPair
  split <;> rfl

theorem Cursor.within_nextPair {c : Cursor} {n : Nat} (h : c.Within n) : c.nextPair.Within n := by
  obtain ⟨h1, h2, h3⟩ := h
  unfold Cursor.nextPair
  split
  · exact ⟨h1, h2, h3⟩
  · refine ⟨?_, ?_, h3⟩ <;> dsimp only <;> split <;> omega

/-- What `advance()` can do: the left cell of the pair, the next row up or down, or the next pair. -/
theorem Cursor.advance_cases (n : Nat) (c : Cursor) :
    c.advance n = { c with j := true } ∨ c.advance n = { c with j := false, y := c.y - 1 } ∨
      (c.y + 1 < n ∧ c.advance n = { c with j := false, y := c.y + 1 }) ∨ c.advance n = c.nextPair := by
  unfold Cursor.advance
  split
  · exact .inl rfl
  · split
    · split
      · exact .inr (.inl rfl)
      · exact .inr (.inr (.inr rfl))
    · split
      · next hy => exact .inr (.inr (.inl ⟨hy, rfl⟩))
      · exact .inr (.inr (.inr rfl))

theorem Cursor.advance_valid (n : Nat) (c : Cursor) : (c.advance n).valid = c.valid := by
  obtain h | h | ⟨-, h⟩ | h := c.advance_cases n <;> rw [h]
  exact c.nextPair_valid

theorem Cursor.within_advance {c : Cursor} {n : Nat} (hc : c.Within n) : (c.advance n).Within n := by
  obtain ⟨h1, h2, h3⟩ := hc
  obtain h | h | ⟨hy, h⟩ | h := c.advance_cases n <;> rw [h]
  · exact ⟨h1, h2, h3⟩
  · exact ⟨h1, h2, by dsimp only; omega⟩
  · exact ⟨h1, h2, hy⟩
  · exact Cursor.within_nextPair ⟨h1, h2, h3⟩

/-- What every `advance()` keeps, `seek()` keeps. -/
theorem Cursor.seek_induction {P : Cursor → Prop} {rsv : Plane} {n : Nat} {c : Cursor} (hc : P c)
    (hstep : ∀ c, P c → P (c.advance n)) : P (c.seek rsv n) := by
  unfold Cursor.seek
  generalize c.fuel n = k
  induction k generalizing c with
  | zero => exact hc
  | succ k ih =>
    rw [Cursor.seekFor]
    split
    · exact ih (hstep c hc)
    · exact hc

section
variable {s : State}

theorem State.sought_valid : s.sought.valid = s.cursor.valid :=
  Cursor.seek_induction (P := fun c => c.valid = s.cursor.valid) rfl fun c hc => (c.advance_valid s.width).trans hc

theorem State.cursor_within (h : s.cursorWf) (hv : s.cursor.valid = true) : s.cursor.Within s.width :=
  have ⟨_, _, h1, h2, h3⟩ := h.2.2 hv
  ⟨h1, h2, h3⟩

theorem State.sought_within (h : s.cursorWf) (hv : s.cursor.valid = true) : s.sought.Within s.width :=
  Cursor.seek_induction (P := fun c => c.Within s.width) (State.cursor_within h hv) fun _ => Cursor.within_advance

theorem Cursor.cell_lt {c : Cursor} {n : Nat} (h : c.Within n) : c.cell.1 < n ∧ c.cell.2 < n :=
  ⟨Nat.lt_of_le_of_lt (Nat.sub_le _ _) h.2.1, h.2.2⟩

/-- A cursor moved inside the symbol of a valid cursor is well formed. -/
theorem State.cursorWf_move {c : Cursor} (h : s.cursorWf) (hv : s.cursor.valid = true) (hc : c.Within s.width) :
    State.cursorWf { s with cursor := c } := by
  obtain ⟨hsq, hsize, _⟩ := h.2.2 hv
  have hw : s.width ≤ 177 := (of_decide_eq_true hsize).2.1
  obtain ⟨h1, h2, h3⟩ := hc
  exact ⟨by dsimp only; omega, by dsimp only; omega, fun _ => ⟨hsq, hsize, h1, h2, h3⟩⟩

end

/-! #### Reed–Solomon lengths (45_rs.md R334, R336) -/

theorem rsEncode_length {d p : List Byte} {k : Nat} (h : rsEncode d k = .ok p) : p.length = k := by
  unfold rsEncode at h
  split at h
  · next hk =>
    cases h
    exact hk.symm
  · split at h
    · cases h
    · cases h
      simp

theorem rsSyndromes_length (c : List Byte) (k : Nat) : (rsSyndromes c k).length = k := by simp [rsSyndromes]

theorem rsDecode_length {c out : List Byte} {k n f : Nat} (h : rsDecode c k = .ok (out, n, f)) : out.length = c.length := by
  unfold rsDecode at h
  dsimp only at h
  split at h
  · cases h
    rfl
  · split at h
    · cases h
    · split at h
      · cases h
      split at h
      · cases h
      cases h
      exact List.foldlRecOn (motive := fun out : List Byte => out.length = c.length) _ _ rfl fun out ho _ _ => by
        rw [xorAt, List.length_modify, ho]

/-! #### Arming the stream (42_render.md R230, R232, R234) -/

section
variable {s : State} {scale : Nat}

/-- Arming a stream whose sequence is neither empty nor 2^32 bytes long. -/
theorem State.streamWf_of_armed {s : State} (hk : s.stream.kind ≠ .none) (hd : 1 ≤ s.height ∧ 1 ≤ s.width)
    (h1 : 1 ≤ s.stream.scale) (h2 : s.stream.scale ≤ Config.scaleMax) (hpos : s.stream.pos = 0#32)
    (hremain : s.stream.remain = BitVec.ofNat 32 s.streamLength) (hl : 1 ≤ s.streamLength) (hl' : s.streamLength < 2 ^ 32)
    (hb : s.stream.kind = .raw → s.stream.bpp = 3 ∨ s.stream.bpp = 4) : s.streamWf := by
  have hn : s.stream.remain.toNat = s.streamLength := by rw [hremain, BitVec.toNat_ofNat, Nat.mod_eq_of_lt hl']
  refine ⟨⟨fun h => absurd h hk, fun h => ?_⟩, fun _ => ⟨hd.1, hd.2, h1, h2, ?_, hl'⟩, hb⟩
  · rw [h, BitVec.toNat_zero] at hn
    omega
  · rw [hpos, hn, BitVec.toNat_zero, Nat.zero_add]

theorem State.streamWf_armRaw {bpp : Nat} (h1 : 1 ≤ scale) (h2 : scale ≤ Config.scaleMax) (h3 : 3 ≤ bpp) (h4 : bpp ≤ 4)
    (hd : 1 ≤ s.height ∧ 1 ≤ s.width) (hl : s.rawLength scale bpp < 2 ^ 32) :
    (s.armRaw scale bpp (s.rawLength scale bpp)).streamWf :=
  have hpos : 1 ≤ s.rawLength scale bpp :=
    Nat.mul_pos (Nat.mul_pos (Nat.mul_pos hd.2 h1) (Nat.mul_pos hd.1 h1)) (by omega)
  State.streamWf_of_armed nofun hd h1 h2 rfl rfl hpos hl fun _ => by dsimp only [State.armRaw]; omega

theorem State.streamWf_armGif (h1 : 1 ≤ scale) (h2 : scale ≤ Config.scaleMax) (hd : 1 ≤ s.height ∧ 1 ≤ s.width)
    (hl : s.gifLen scale < 2 ^ 32) : (s.armGif scale (s.gifLen scale)).streamWf :=
  have hpos : 1 ≤ s.gifLen scale := by unfold State.gifLen gifLength; omega
  State.streamWf_of_armed nofun hd h1 h2 rfl rfl hpos hl nofun

end

/-! #### Each command's writes

One lemma per command: the checks of its rule in their order, then the writes of its last line. -/

section
variable {s : State}

theorem execNop_performs : Performs .nop s (execNop s) := ⟨_, rfl, .of_ok (.refl rfl rfl nofun)⟩

theorem execSStreamCancel_performs : Performs .sStreamCancel s (execSStreamCancel s) := ⟨_, rfl, .of_ok (.cancel rfl)⟩

theorem execGfAdd_performs : Performs .gfAdd s (execGfAdd s) :=
  ⟨_, rfl, .of_requireByte fun _ => .of_requireByte fun _ => .of_ok (.res0 _ rfl rfl nofun rfl)⟩

theorem execGfMul_performs : Performs .gfMul s (execGfMul s) :=
  ⟨_, rfl, .of_requireByte fun _ => .of_requireByte fun _ => .of_ok (.res0 _ rfl rfl nofun rfl)⟩

theorem execGfInv_performs : Performs .gfInv s (execGfInv s) :=
  ⟨_, rfl, .of_requireByte fun _ => .of_require fun _ => .of_ok (.res0 _ rfl rfl nofun rfl)⟩

theorem execGfPow_performs : Performs .gfPow s (execGfPow s) :=
  ⟨_, rfl, .of_requireByte fun _ => .of_ok (.res0 _ rfl rfl nofun rfl)⟩

theorem execGfExp_performs : Performs .gfExp s (execGfExp s) := ⟨_, rfl, .of_ok (.res0 _ rfl rfl nofun rfl)⟩

theorem execGfLog_performs : Performs .gfLog s (execGfLog s) :=
  ⟨_, rfl, .of_requireByte fun _ => .of_require fun _ => .of_ok (.res0 _ rfl rfl nofun rfl)⟩

theorem execPLoad_performs (rd : PReg) : Performs (.pLoad rd) s (execPLoad rd s) :=
  ⟨_, rfl, .of_requireArg fun h1 h2 => .of_requireRange fun _ =>
    .of_ok (.putPoly rd _ rfl rfl nofun rfl rfl fun _ =>
      polyHeld_polyNorm (by rwa [State.memRead_length]) (by rwa [State.memRead_length]))⟩

theorem execPStore_performs (rs1 : PReg) : Performs (.pStore rs1) s (execPStore rs1 s) :=
  ⟨_, rfl, .of_requireRange fun h => .of_ok (.memory0 _ _ rfl rfl nofun (by simp [effects]) rfl h)⟩

theorem execPMono_performs (rd : PReg) : Performs (.pMono rd) s (execPMono rd s) :=
  ⟨_, rfl, .of_requireByte fun h => .of_requireByte fun _ =>
    .of_ok (.putPoly rd _ rfl rfl nofun rfl rfl fun _ => polyHeld_pmono _ h)⟩

theorem execPAdd_performs (rd rs1 rs2 : PReg) : Performs (.pAdd rd rs1 rs2) s (execPAdd rd rs1 rs2 s) :=
  ⟨_, rfl, .of_ok (.putPoly rd _ rfl rfl nofun rfl rfl fun hs => polyHeld_padd (hs rs1).1 (hs rs1).2.1 (hs rs2).2.1)⟩

theorem execPMul_performs (rd rs1 rs2 : PReg) : Performs (.pMul rd rs1 rs2) s (execPMul rd rs1 rs2 s) :=
  ⟨_, rfl, .of_andThen fun _ hp => .of_ok (.putPoly rd _ rfl rfl nofun rfl rfl fun hs => polyHeld_pmul (hs rs1) (hs rs2) hp)⟩

theorem execPScale_performs (rd rs1 : PReg) : Performs (.pScale rd rs1) s (execPScale rd rs1 s) :=
  ⟨_, rfl, .of_requireByte fun _ => .of_ok (.putPoly rd _ rfl rfl nofun rfl rfl fun hs => polyHeld_pscale _ (hs rs1))⟩

theorem execPMulmono_performs (rd rs1 : PReg) : Performs (.pMulmono rd rs1) s (execPMulmono rd rs1 s) :=
  ⟨_, rfl, .of_requireByte fun _ => .of_requireByte fun _ => .of_andThen fun _ hp =>
    .of_ok (.putPoly rd _ rfl rfl nofun rfl rfl fun hs => polyHeld_pmulmono (hs rs1) hp)⟩

theorem execPRem_performs (rd rs1 rs2 : PReg) : Performs (.pRem rd rs1 rs2) s (execPRem rd rs1 rs2 s) :=
  ⟨_, rfl, .of_andThen fun _ hp =>
    .of_ok (.putPoly rd _ rfl rfl nofun rfl rfl fun hs => (polyHeld_pdivmod (hs rs1) (hs rs2) hp).2)⟩

theorem execPEval_performs (rs1 : PReg) : Performs (.pEval rs1) s (execPEval rs1 s) :=
  ⟨_, rfl, .of_requireByte fun _ => .of_ok (.res0 _ rfl rfl nofun rfl)⟩

theorem execPGen_performs (rd : PReg) : Performs (.pGen rd) s (execPGen rd s) :=
  ⟨_, rfl, .of_requireByte fun h => .of_ok <|
    .setRes 0 _ (.setPoly rd _ (.refl rfl rfl nofun) (by simp [effects]) fun _ => polyHeld_pgen h) (by simp [effects])⟩

theorem execPEuclid_performs (rd rd2 rs1 rs2 : PReg) :
    Performs (.pEuclid rd rd2 rs1 rs2) s (execPEuclid rd rd2 rs1 rs2 s) :=
  ⟨_, rfl, .of_andThen fun _ hp => .of_ok <|
    .setRes 1 _ (.setRes 0 _
      (.setPoly rd2 _ (.setPoly rd _ (.refl rfl rfl nofun) (by simp [effects])
        fun hs => (polyHeld_euclid (hs rs1) (hs rs2) hp).1) (by simp [effects])
        fun hs => (polyHeld_euclid (hs rs1) (hs rs2) hp).2)
      (by simp [effects])) (by simp [effects])⟩

theorem execRsEncode_performs : Performs .rsEncode s (execRsEncode s) :=
  ⟨_, rfl, .of_requireArg fun _ _ => .of_require fun _ => .of_requireRange fun _ => .of_requireRange fun h =>
    .of_andThen fun _ hp => .of_ok
      (.memory0 _ _ rfl rfl nofun (by simp [effects]) (rsEncode_length hp) (by rwa [rsEncode_length hp]))⟩

theorem execRsSyndrome_performs : Performs .rsSyndrome s (execRsSyndrome s) :=
  ⟨_, rfl, .of_requireArg fun _ _ => .of_requireArg fun _ _ => .of_requireRange fun _ => .of_requireRange fun h => .of_ok
    (.memory0 _ _ rfl rfl nofun (by simp [effects]) (rsSyndromes_length _ _) (by rwa [rsSyndromes_length]))⟩

theorem execRsDecode_performs : Performs .rsDecode s (execRsDecode s) :=
  ⟨_, rfl, .of_requireArg fun _ _ => .of_requireArg fun _ _ => .of_requireRange fun h => .of_andThen fun _ hp =>
    have hlen := (rsDecode_length hp).trans (State.memRead_length _ _ _)
    .of_ok (.setRes 1 _ (.memory0 _ _ rfl rfl nofun (by simp [effects]) hlen (by rwa [hlen])) (by simp [effects]))⟩

theorem execMNew_performs : Performs .mNew s (execMNew s) :=
  ⟨_, rfl, .of_requireArg fun _ hh => .of_requireArg fun _ hw => .of_ok <|
    .matrix _ _ _ _ _ rfl rfl rfl rfl (fun _ => ⟨hh, hw⟩) fun _ _ _ => ⟨Plane.get_zero _ _, Plane.get_zero _ _⟩⟩

theorem execMSet_performs : Performs .mSet s (execMSet s) :=
  ⟨_, rfl, .of_withCoord fun x hx => .of_withCoord fun y hy => .of_requireArg fun _ _ => .of_ok <|
    .ofCells (State.setcell_eq s x y _) rfl rfl rfl fun _ _ _ hout => State.setcell_get_of_ne s _ fun e =>
      hout ⟨e.1 ▸ resolve_lt hx, e.2 ▸ resolve_lt hy⟩⟩

theorem execMGet_performs : Performs .mGet s (execMGet s) :=
  ⟨_, rfl, .of_withCoord fun _ _ => .of_withCoord fun _ _ => .of_ok (.res0 _ rfl rfl nofun rfl)⟩

theorem execMRect_performs : Performs .mRect s (execMRect s) :=
  ⟨_, rfl, .of_withCoord fun _ _ => .of_withCoord fun _ _ => .of_requireArg fun _ _ => .of_ok <|
    .ofCells (State.fillRect_eq s _ _ _ _ _) rfl rfl rfl fun _ _ _ hout => State.fillRect_get_of_outside s _ _ _ _ _ hout⟩

theorem execMNegate_performs : Performs .mNegate s (execMNegate s) :=
  ⟨_, rfl, .of_ok <| .ofCells rfl rfl rfl rfl fun _ _ _ hout =>
    ⟨Plane.get_mergeOn_of_outside _ _ _ hout, Plane.get_mergeOn_of_outside _ _ _ hout⟩⟩

theorem execMTranspose_performs : Performs .mTranspose s (execMTranspose s) :=
  ⟨_, rfl, .of_ok <| .matrix _ _ _ _ _ rfl rfl rfl rfl (fun hs => hs.dims.symm) fun _ _ hout =>
    ⟨Plane.get_ofWindow_of_outside _ hout, Plane.get_ofWindow_of_outside _ hout⟩⟩

theorem execMBorder_performs : Performs .mBorder s (execMBorder s) :=
  ⟨_, rfl, .of_require fun hdims => .of_requireArg fun _ _ => .of_ok <|
    .matrix _ _ _ _ _ rfl rfl rfl rfl (fun _ => of_decide_eq_true hdims) fun _ _ hout =>
      ⟨Plane.get_ofWindow_of_outside _ hout, Plane.get_ofWindow_of_outside _ hout⟩⟩

theorem execMPopcount_performs : Performs .mPopcount s (execMPopcount s) := ⟨_, rfl, .of_ok (.res0 _ rfl rfl nofun rfl)⟩

theorem execMCountPattern_performs : Performs .mCountPattern s (execMCountPattern s) :=
  ⟨_, rfl, .of_withCoord fun _ _ => .of_requireArg fun _ _ => .of_requireArg fun _ _ => .of_require fun _ =>
    .of_require fun _ => .of_ok (.res0 _ rfl rfl nofun rfl)⟩

theorem execMCountBoxes_performs : Performs .mCountBoxes s (execMCountBoxes s) :=
  ⟨_, rfl, .of_withCoord fun _ _ => .of_require fun _ => .of_ok (.res0 _ rfl rfl nofun rfl)⟩

theorem execMAssertDrawn_performs : Performs .mAssertDrawn s (execMAssertDrawn s) :=
  ⟨_, rfl, .of_require fun _ => .of_ok (.refl rfl rfl nofun)⟩

theorem execMPenalty_performs : Performs .mPenalty s (execMPenalty s) :=
  ⟨_, rfl, .of_require fun _ => .of_require fun _ => .of_ok (.setCursorRes _ _ _ _ (.refl rfl rfl nofun) rfl)⟩

theorem execRRaw_performs : Performs .rRaw s (execRRaw s) :=
  ⟨_, rfl, .of_requireArg fun h1 h2 => .of_requireArg fun h3 h4 => .of_require fun hdims => .of_require fun _ =>
    .of_require fun hlen => .of_ok <| .setRes 0 _ (.arm _ (.refl rfl rfl nofun) rfl
      fun _ => State.streamWf_armRaw h1 h2 h3 h4 (of_decide_eq_true hdims) (of_decide_eq_true hlen)) (by simp [effects])⟩

theorem execRGif_performs : Performs .rGif s (execRGif s) :=
  ⟨_, rfl, .of_requireArg fun h1 h2 => .of_require fun hdims => .of_require fun _ => .of_require fun _ =>
    .of_require fun hlen => .of_ok <| .setRes 0 _ (.arm _ (.refl rfl rfl nofun) rfl
      fun _ => State.streamWf_armGif h1 h2 (of_decide_eq_true hdims) (of_decide_eq_true hlen)) (by simp [effects])⟩

theorem execBFormat_performs : Performs .bFormat s (execBFormat s) :=
  ⟨_, rfl, .of_requireArg fun _ _ => .of_requireArg fun _ _ => .of_ok (.res0 _ rfl rfl nofun rfl)⟩

theorem execBVersion_performs : Performs .bVersion s (execBVersion s) :=
  ⟨_, rfl, .of_requireArg fun _ _ => .of_ok (.res0 _ rfl rfl nofun rfl)⟩

theorem execBFormatDecode_performs : Performs .bFormatDecode s (execBFormatDecode s) :=
  ⟨_, rfl, .of_requireArg fun _ _ => .of_requireArg fun _ _ => .of_andThen fun _ _ => .of_ok <|
    .setRes 2 _ (.setRes 1 _ (.setRes 0 _ (.refl rfl rfl nofun) (by simp [effects])) (by simp [effects])) (by simp [effects])⟩

theorem execBVersionDecode_performs : Performs .bVersionDecode s (execBVersionDecode s) :=
  ⟨_, rfl, .of_requireArg fun _ _ => .of_requireArg fun _ _ => .of_andThen fun _ _ => .of_ok <|
    .setRes 2 _ (.setRes 0 _ (.refl rfl rfl nofun) (by simp [effects])) (by simp [effects])⟩

theorem execLTemplate_performs : Performs .lTemplate s (execLTemplate s) :=
  ⟨_, rfl, .of_requireArg fun h1 h2 => .of_requireArg fun _ _ => .of_requireArg fun _ _ => .of_requireArg fun _ _ =>
    .of_ok <| .setRes 1 _ (.setRes 0 _
      (.matrix _ _ _ _ _ rfl rfl rfl rfl (fun _ => ⟨symbolSize_le h2, symbolSize_le h2⟩) (template_within h1))
      (by simp [effects])) (by simp [effects])⟩

theorem execLReserve_performs : Performs .lReserve s (execLReserve s) :=
  ⟨_, rfl, .of_requireArg fun _ _ => .of_ok <| .setRes 0 _ (.reserve _ rfl rfl rfl) (by simp [effects])⟩

theorem execLFormatRead_performs : Performs .lFormatRead s (execLFormatRead s) :=
  ⟨_, rfl, .of_require fun _ => .of_andThen fun _ _ => .of_ok (.setCursorRes _ _ _ _ (.refl rfl rfl nofun) rfl)⟩

theorem execLVersionRead_performs : Performs .lVersionRead s (execLVersionRead s) := by
  refine ⟨_, rfl, .of_require fun _ => ?_⟩
  split
  · exact .of_ok (.setCursorRes _ _ _ _ (.refl rfl rfl nofun) rfl)
  · exact .of_andThen fun _ _ => .of_ok (.setCursorRes _ _ _ _ (.refl rfl rfl nofun) rfl)

theorem execLDraw_performs : Performs .lDraw s (execLDraw s) :=
  ⟨_, rfl, .of_requireArg fun h1 h2 => .of_requireArg fun _ _ => .of_requireArg fun _ _ => .of_requireRange fun _ =>
    .of_require fun _ => .of_ok <| .setRes 1 _ (.setRes 0 _
      (.matrix _ _ _ _ _ rfl rfl rfl rfl (fun _ => ⟨symbolSize_le h2, symbolSize_le h2⟩) (symbolCanvas_within h1))
      (by simp [effects])) (by simp [effects])⟩

theorem packBytes_length (n : Nat) (bits : List Bool) : (packBytes n bits).length = n := by
  induction n generalizing bits with
  | zero => rfl
  | succ n ih => simp [packBytes, ih]

theorem execLRead_performs : Performs .lRead s (execLRead s) :=
  ⟨_, rfl, .of_requireArg fun _ _ => .of_requireArg fun _ _ => .of_require fun _ => .of_requireRange fun h =>
    .of_require fun _ => .of_require fun _ => .of_ok
      (.memory0 _ _ rfl rfl nofun (by simp [effects]) (packBytes_length _ _) (by rwa [State.readBytes, packBytes_length]))⟩

theorem State.cursorWf_start (m : Fin 8) (h : s.isSymbol = true) :
    State.cursorWf { s with cursor := ⟨s.width - 1, s.width - 1, .up, false, false, true, m⟩ } := by
  obtain ⟨hsq, hsize⟩ := Bool.and_eq_true_iff.1 h
  have hn := of_decide_eq_true hsize
  exact ⟨by dsimp only; omega, by dsimp only; omega,
    fun _ => ⟨of_decide_eq_true hsq, hsize, by dsimp only; omega, by dsimp only; omega, by dsimp only; omega⟩⟩

theorem execZStart_performs : Performs .zStart s (execZStart s) :=
  ⟨_, rfl, .of_requireArg fun _ _ => .of_require fun h => .of_ok <|
    .moveCursor _ (.refl rfl rfl nofun) rfl (fun hne => absurd rfl hne) fun _ => State.cursorWf_start _ h⟩

theorem State.cursorWf_sought (hs : s.cursorWf) (hv : s.cursor.valid = true) :
    State.cursorWf { s with cursor := s.sought } ∧ State.cursorWf { s with cursor := s.sought.advance s.width } :=
  have h := State.sought_within hs hv
  ⟨State.cursorWf_move hs hv h, State.cursorWf_move hs hv (Cursor.within_advance h)⟩

theorem State.sought_advance_valid : (s.sought.advance s.width).valid = s.cursor.valid :=
  (Cursor.advance_valid _ _).trans State.sought_valid

theorem execZNext_performs : Performs .zNext s (execZNext s) := by
  refine ⟨_, rfl, .of_require fun hv => ?_⟩
  dsimp only
  split
  · exact .of_ok (.setCursorRes _ _ _ _ (.moveCursor _ (.refl rfl rfl nofun) rfl (fun _ => State.sought_valid)
      fun hs => (State.cursorWf_sought hs.cursor hv).1) rfl)
  · exact .of_ok (.setCursorRes _ _ _ _ (.moveCursor _ (.refl rfl rfl nofun) rfl (fun _ => State.sought_advance_valid)
      fun hs => (State.cursorWf_sought hs.cursor hv).2) rfl)

theorem execZGet_performs : Performs .zGet s (execZGet s) :=
  ⟨_, rfl, .of_require fun hv => .of_require fun _ => .of_require fun _ => .of_ok
    (.setCursorRes _ _ _ _ (.moveCursor _ (.refl rfl rfl nofun) rfl (fun _ => State.sought_advance_valid)
      fun hs => (State.cursorWf_sought hs.cursor hv).2) rfl)⟩

theorem State.putbit_eq (x y : Nat) (b : Bool) :
    s.putbit x y b = { s with dplane := Plane.set s.dplane x y true, vplane := Plane.set s.vplane x y b } := by
  cases b <;> rfl

theorem State.setCursorRes_cancelStream (a b c d : Nat) :
    (s.setCursorRes a b c d).cancelStream = s.cancelStream.setCursorRes a b c d := rfl

theorem State.moveCursor_cancelStream (c : Cursor) :
    State.cancelStream { s with cursor := c } = { s.cancelStream with cursor := c } := rfl

theorem execZPut_performs : Performs .zPut s (execZPut s) := by
  refine ⟨_, rfl, .of_requireArg fun _ _ => .of_require fun hv => .of_require fun _ => .of_ok ?_⟩
  rw [State.setCursorRes_cancelStream, State.moveCursor_cancelStream, State.putbit_eq]
  refine .setCursorRes _ _ _ _ (.moveCursor _ (.cells _ _ rfl rfl rfl fun hs x y hout => ?_) rfl
    (fun _ => State.sought_advance_valid) fun hs => (State.cursorWf_sought hs.cursor hv).2) rfl
  have hin := Cursor.cell_lt (State.sought_within hs.cursor hv)
  have hne : ¬ (x = s.sought.cell.1 ∧ y = s.sought.cell.2) := fun e =>
    hout ⟨e.1 ▸ hin.1, e.2.symm ▸ (hs.cursor.2.2 hv).1.symm ▸ hin.2⟩
  rw [Plane.get_set, Plane.get_set, if_neg fun e => hne e.2.2, if_neg fun e => hne e.2.2]
  exact ⟨rfl, rfl⟩

theorem execLMaskApply_performs : Performs .lMaskApply s (execLMaskApply s) :=
  ⟨_, rfl, .of_requireArg fun _ _ => .of_ok <| .ofCells rfl rfl rfl rfl fun _ _ _ hout =>
    ⟨rfl, Plane.get_mergeOn_of_outside _ _ _ hout⟩⟩

theorem execLMaskBit_performs : Performs .lMaskBit s (execLMaskBit s) :=
  ⟨_, rfl, .of_requireArg fun _ _ => .of_requireByte fun _ => .of_requireByte fun _ =>
    .of_ok (.res0 _ rfl rfl nofun rfl)⟩

end

/-- Every command performs writes of its own rule, or raises. -/
theorem exec_performs (i : Instr) (s : State) : Performs i s (exec i s) := by
  cases i with
  | nop => exact execNop_performs 
  | sStreamCancel => exact execSStreamCancel_performs 
  | gfAdd => exact execGfAdd_performs 
  | gfMul => exact execGfMul_performs 
  | gfInv => exact execGfInv_performs 
  | gfPow => exact execGfPow_performs 
  | gfExp => exact execGfExp_performs 
  | gfLog => exact execGfLog_performs 
  | pLoad rd => exact execPLoad_performs rd 
  | pStore rs1 => exact execPStore_performs rs1 
  | pMono rd => exact execPMono_performs rd 
  | pAdd rd rs1 rs2 => exact execPAdd_performs rd rs1 rs2 
  | pMul rd rs1 rs2 => exact execPMul_performs rd rs1 rs2 
  | pScale rd rs1 => exact execPScale_performs rd rs1 
  | pMulmono rd rs1 => exact execPMulmono_performs rd rs1 
  | pRem rd rs1 rs2 => exact execPRem_performs rd rs1 rs2 
  | pEval rs1 => exact execPEval_performs rs1 
  | pGen rd => exact execPGen_performs rd 
  | pEuclid rd rd2 rs1 rs2 => exact execPEuclid_performs rd rd2 rs1 rs2 
  | rsEncode => exact execRsEncode_performs 
  | rsSyndrome => exact execRsSyndrome_performs 
  | rsDecode => exact execRsDecode_performs 
  | mNew => exact execMNew_performs 
  | mSet => exact execMSet_performs 
  | mGet => exact execMGet_performs 
  | mRect => exact execMRect_performs 
  | mNegate => exact execMNegate_performs 
  | mTranspose => exact execMTranspose_performs 
  | mBorder => exact execMBorder_performs 
  | mPopcount => exact execMPopcount_performs 
  | mCountPattern => exact execMCountPattern_performs 
  | mCountBoxes => exact execMCountBoxes_performs 
  | mAssertDrawn => exact execMAssertDrawn_performs 
  | mPenalty => exact execMPenalty_performs 
  | rRaw => exact execRRaw_performs 
  | rGif => exact execRGif_performs 
  | bFormat => exact execBFormat_performs 
  | bVersion => exact execBVersion_performs 
  | bFormatDecode => exact execBFormatDecode_performs 
  | bVersionDecode => exact execBVersionDecode_performs 
  | lTemplate => exact execLTemplate_performs 
  | lReserve => exact execLReserve_performs 
  | lFormatRead => exact execLFormatRead_performs 
  | lVersionRead => exact execLVersionRead_performs 
  | lDraw => exact execLDraw_performs 
  | lRead => exact execLRead_performs 
  | zStart => exact execZStart_performs 
  | zNext => exact execZNext_performs 
  | zPut => exact execZPut_performs 
  | zGet => exact execZGet_performs 
  | lMaskApply => exact execLMaskApply_performs 
  | lMaskBit => exact execLMaskBit_performs 

/-- A command ends successfully in a state it may write, or by the error end of the state it began in. -/
theorem exec_cases {i : Instr} {s t : State} (h : exec i s = .next t) :
    (∃ u, Writes i s u ∧ t = u.successEnd) ∨ ∃ e, t = s.errorEnd e := by
  obtain ⟨r, hr, hpost⟩ := exec_performs i s
  exact State.finish_post hpost (hr ▸ h)

end Sys2Proof.Machine
end

section
namespace Sys2Proof.Machine

/-! ### What every command leaves as it is -/

section
variable {i : Instr} {s u : State}

theorem State.getPoly_setPoly (s : State) (r q : PReg) (p : Poly) :
    (s.setPoly r p).getPoly q = if q = r then p else s.getPoly q := by
  simp only [State.getPoly, State.setPoly, Fin.getElem_fin, Vector.getElem_set, Fin.ext_iff, eq_comm]

/-- The components no command touches. -/
theorem Writes.untouched (h : Writes i s u) :
    u.arg = s.arg ∧ u.cmd = s.cmd ∧ u.irqEn = s.irqEn ∧ u.status = s.status ∧ u.rdata = s.rdata ∧ u.agenda = s.agenda ∧
      u.fresh = s.fresh := by
  induction h with
  | refl | cancel | cells | matrix | reserve => simp
  | setRes | setPoly | memory | moveCursor | arm => assumption

theorem Writes.res (h : Writes i s u) {k : Fin 4} (hk : k ∉ (effects i).res) : u.res[k] = s.res[k] := by
  induction h with
  | refl | cancel | cells | matrix | reserve => rfl
  | setRes j n _ hj ih =>
    have hne : j.val ≠ k.val := fun e => hk (Fin.ext e ▸ hj)
    simpa [Vector.getElem_set_ne _ _ hne] using ih
  | setPoly | memory | moveCursor | arm => assumption

theorem Writes.poly (h : Writes i s u) {r : PReg} (hr : r ∉ (effects i).poly) : u.getPoly r = s.getPoly r := by
  induction h with
  | refl | cancel | cells | matrix | reserve => rfl
  | setPoly q p _ hq _ ih =>
    have hne : r ≠ q := fun e => hr (e ▸ hq)
    rw [State.getPoly_setPoly, if_neg hne, ih]
  | setRes | memory | moveCursor | arm => assumption

theorem Writes.dram (h : Writes i s u) {a : Nat} (ha : a < (s.dramReach i).1 ∨ (s.dramReach i).1 + (s.dramReach i).2 ≤ a) :
    Memory.read u.dram a = Memory.read s.dram a := by
  induction h with
  | refl | cancel | cells | matrix | reserve => rfl
  | memory bs _ hlen _ ih => rw [State.memWrite_dram, Memory.read_write_of_outside _ _ _ _ (hlen ▸ ha), ih]
  | setRes | setPoly | moveCursor | arm => assumption

/-- A command that may not change H and W writes no new matrix. -/
theorem Writes.dims (h : Writes i s u) (hd : (effects i).dims = false) : u.height = s.height ∧ u.width = s.width := by
  induction h with
  | refl | cancel | cells | reserve => simp
  | matrix _ _ _ _ _ hd' => simp [hd] at hd'
  | setRes | setPoly | memory | moveCursor | arm => assumption

/-- The commands that set H and W are matrix-writing commands (40_system.md R165). -/
theorem effects_matrix_of_dims (hd : (effects i).dims = true) : (effects i).matrix = true := by
  cases i <;> simp_all [effects]

theorem Writes.planes (h : Writes i s u) (hm : (effects i).matrix = false) : u.dplane = s.dplane ∧ u.vplane = s.vplane := by
  induction h with
  | refl | cancel | reserve => simp
  | cells _ _ hm' => simp [hm] at hm'
  | matrix _ _ _ _ _ _ hm' => simp [hm] at hm'
  | setRes | setPoly | memory | moveCursor | arm => assumption

theorem Writes.rplane (h : Writes i s u) (hr : (effects i).rsv = false) : u.rplane = s.rplane := by
  induction h with
  | refl | cancel | cells => rfl
  | matrix _ _ _ _ _ _ _ hr' => simp [hr] at hr'
  | reserve _ _ hr' => simp [hr] at hr'
  | setRes | setPoly | memory | moveCursor | arm => assumption

theorem Writes.planes_outside (h : Writes i s u) (hs : s.Inv) (hd : (effects i).dims = false) {x y : Nat}
    (hout : ¬ (x < s.width ∧ y < s.height)) :
    Plane.get u.dplane x y = Plane.get s.dplane x y ∧ Plane.get u.vplane x y = Plane.get s.vplane x y := by
  induction h with
  | refl | cancel | reserve => exact ⟨rfl, rfl⟩
  | cells _ _ _ _ _ hframe => exact hframe hs x y hout
  | matrix _ _ _ _ _ hd' => simp [hd] at hd'
  | setRes | setPoly | memory | moveCursor | arm => assumption

/-- A new matrix is 0 outside its window (10_state.md R47). -/
theorem Writes.matrix_outside (h : Writes i s u) (hd : (effects i).dims = true) {x y : Nat}
    (hout : ¬ (x < u.width ∧ y < u.height)) : Plane.get u.dplane x y = false ∧ Plane.get u.vplane x y = false := by
  have hm := effects_matrix_of_dims hd
  induction h with
  | refl hm' | reserve _ hm' => simp [hm] at hm'
  | cancel hi => simp [hi, effects] at hd
  | cells _ _ _ hd' => simp [hd] at hd'
  | matrix _ _ _ _ _ _ _ _ _ _ hzero => exact hzero x y hout
  | setRes _ _ _ _ ih | setPoly _ _ _ _ _ ih | memory _ _ _ _ ih | moveCursor _ _ _ _ _ ih | arm _ _ _ _ ih => exact ih hout

end

/-! ### What every command keeps of the invariant -/

section
variable {i : Instr} {s u : State}

/-- A stream cancelled is well formed. -/
theorem State.streamWf_of_none (hk : u.stream.kind = .none) (hr : u.stream.remain = 0#32) : u.streamWf :=
  ⟨by simp [hk, hr], fun h => absurd hk h, fun h => by simp [hk] at h⟩

/-- An invalid cursor need only fit ZSTATE. -/
theorem State.cursorWf_of_invalid (hs : s.cursorWf) (hxo : u.cursor.xo = s.cursor.xo) (hy : u.cursor.y = s.cursor.y)
    (hv : u.cursor.valid = false) : u.cursorWf :=
  ⟨hxo ▸ hs.1, hy ▸ hs.2.1, fun h => by simp [hv] at h⟩

/-- What a command writes keeps the invariant. -/
theorem Writes.inv (h : Writes i s u) (hs : s.Inv) : u.Inv := by
  induction h with
  | refl => exact hs
  | cancel | cells => exact ⟨hs.dram, hs.dims, hs.polys, hs.status, hs.cursor, State.streamWf_of_none rfl rfl⟩
  | matrix _ _ _ _ _ _ _ _ _ hdims =>
    exact ⟨hs.dram, hdims hs, hs.polys, hs.status, State.cursorWf_of_invalid hs.cursor rfl rfl rfl,
      State.streamWf_of_none rfl rfl⟩
  | reserve =>
    exact ⟨hs.dram, hs.dims, hs.polys, hs.status, State.cursorWf_of_invalid hs.cursor rfl rfl rfl, hs.stream⟩
  | setRes _ _ _ _ hu => exact ⟨hu.dram, hu.dims, hu.polys, hu.status, hu.cursor, hu.stream⟩
  | setPoly r p _ _ hp hu =>
    refine ⟨hu.dram, hu.dims, fun q => ?_, hu.status, hu.cursor, hu.stream⟩
    rw [State.getPoly_setPoly]
    split
    · exact hp hs.polys
    · exact hu.polys q
  | memory bs _ _ hrange hu =>
    exact ⟨Memory.wf_write _ _ bs hu.dram hrange, hu.dims, hu.polys, hu.status, hu.cursor, hu.stream⟩
  | moveCursor _ _ _ _ hwf hu => exact ⟨hu.dram, hu.dims, hu.polys, hu.status, hwf hs, hu.stream⟩
  | arm _ _ _ hwf hu => exact ⟨hu.dram, hu.dims, hu.polys, hu.status, hu.cursor, hwf hs⟩

/-- The invariant of a state that differs in STATUS and in components the invariant does not speak of. -/
theorem State.Inv.withStatus (hs : s.Inv) {st : Status} (hst : st.wf) : State.Inv { s with status := st } :=
  ⟨hs.dram, hs.dims, hs.polys, hst, hs.cursor, hs.stream⟩

theorem ErrKind.code_range (k : ErrKind) : 1 ≤ k.code.toNat ∧ k.code.toNat ≤ 14 := by
  cases k <;> decide

theorem State.Inv.successEnd (hs : s.Inv) : s.successEnd.Inv :=
  hs.withStatus ⟨nofun, hs.status.2.1, hs.status.2.2⟩

theorem State.Inv.errorEnd (hs : s.Inv) (e : Raise) : (s.errorEnd e).Inv :=
  hs.withStatus ⟨nofun, nofun, fun _ => e.kind.code_range⟩

theorem State.Inv.accept (hs : s.Inv) (w : Word) : (s.accept w).Inv :=
  have hst : s.status.accepted.wf := ⟨fun _ => ⟨rfl, rfl⟩, fun _ => ⟨rfl, rfl⟩, nofun⟩
  ⟨hs.dram, hs.dims, hs.polys, hst, hs.cursor, hs.stream⟩

theorem exec_inv {t : State} (hs : s.Inv) (h : exec i s = .next t) : t.Inv := by
  obtain ⟨u, hu, rfl⟩ | ⟨e, rfl⟩ := exec_cases h
  · exact (hu.inv hs).successEnd
  · exact hs.errorEnd e

end

/-! ### What the block's and the host's moves keep of the invariant -/

section
variable {s t : State}

theorem State.runCommand_inv (hs : s.Inv) (h : s.runCommand = .next t) : t.Inv := by
  unfold State.runCommand at h
  split at h
  · cases h
    exact hs.errorEnd _
  · exact exec_inv hs h

theorem State.blockTurn_inv (hs : s.Inv) (h : s.blockTurn = .next t) : t.Inv := by
  unfold State.blockTurn at h
  split at h
  · exact State.runCommand_inv hs h
  · cases h
    exact hs

/-! #### Reads -/

theorem State.Inv.answer (hs : s.Inv) (v : Word) : (s.answer v).Inv :=
  ⟨hs.dram, hs.dims, hs.polys, hs.status, hs.cursor, hs.stream⟩

theorem State.Inv.answerFree (hs : s.Inv) (v : Word) : (s.answerFree v).Inv :=
  ⟨hs.dram, hs.dims, hs.polys, hs.status, hs.cursor, hs.stream⟩

theorem State.svalid_iff : s.svalid = true ↔ s.stream.remain ≠ 0#32 := by simp [State.svalid]

/-- Reading a byte moves one byte from the bytes left to the bytes read (42_render.md R236, R237). -/
theorem State.streamWf_advance (h : s.streamWf) (hv : s.svalid = true) :
    State.streamWf { s with stream := s.stream.advance } := by
  obtain ⟨hiff, hlen, hbpp⟩ := h
  have hne := State.svalid_iff.1 hv
  by_cases hlast : s.stream.remain - 1#32 = 0#32
  · exact State.streamWf_of_none (by simp [Stream.advance, hlast]) (by simp [Stream.advance, hlast])
  · have hk : s.stream.kind ≠ .none := fun e => hne (hiff.1 e)
    obtain ⟨hh, hw, h1, h2, hsum, hlt⟩ := hlen hk
    have hadv : s.stream.advance = { s.stream with pos := s.stream.pos + 1#32, remain := s.stream.remain - 1#32 } := by
      simp [Stream.advance, hlast]
    rw [hadv]
    refine ⟨⟨fun e => absurd e hk, fun e => absurd e hlast⟩, fun _ => ⟨hh, hw, h1, h2, ?_, hlt⟩, hbpp⟩
    have hpos : 1 ≤ s.stream.remain.toNat := by
      have : s.stream.remain.toNat ≠ 0 := fun e => hne (BitVec.eq_of_toNat_eq e)
      omega
    change (s.stream.pos + 1#32).toNat + (s.stream.remain - 1#32).toNat = s.streamLength
    rw [BitVec.toNat_add_of_lt (by simp; omega), BitVec.toNat_sub_of_le (by simpa [BitVec.le_def] using hpos)]
    simp
    omega

theorem State.Inv.withStream (hs : s.Inv) {st : Stream} (h : State.streamWf { s with stream := st }) :
    State.Inv { s with stream := st } :=
  ⟨hs.dram, hs.dims, hs.polys, hs.status, hs.cursor, h⟩

theorem State.readSdata_inv (hs : s.Inv) : s.readSdata.Inv := by
  unfold State.readSdata
  split
  · next hv =>
    have hadv := hs.withStream (State.streamWf_advance hs.stream hv)
    split
    · exact hadv.answerFree _
    · exact hadv.answer _
  · exact hs.answer _

theorem State.readIdle_inv (hs : s.Inv) (a : BitVec 14) : (s.readIdle a).Inv := by
  unfold State.readIdle
  cases regionOf a with
  | sdata => exact State.readSdata_inv hs
  | id | ctrl | status | cmd | arg | res | mdim | zstate | sremain | dram | dplane | vplane | rplane | reserved =>
    exact hs.answer _

theorem State.readBusy_inv (hs : s.Inv) (a : BitVec 14) : (s.readBusy a).Inv := by
  unfold State.readBusy
  cases regionOf a with
  | sdata =>
    refine State.Inv.answerFree (hs.withStream ?_) _
    split
    · next hv => exact State.streamWf_advance hs.stream (Bool.and_eq_true_iff.1 hv).1
    · exact hs.stream
  | id | ctrl | cmd | arg | reserved => exact hs.answer _
  | status | res | mdim | zstate | sremain | dram | dplane | vplane | rplane => exact hs.answerFree _

theorem State.hostRead_inv (hs : s.Inv) (a : BitVec 14) : (s.hostRead a).Inv := by
  unfold State.hostRead
  split
  · exact State.readBusy_inv hs a
  · exact State.readIdle_inv hs a

/-! #### Writes -/

theorem polyHeld_zero : polyHeld [0#8] := polyHeld_single _

theorem State.Inv.softReset (hs : s.Inv) : s.softReset.Inv where
  dram := hs.dram
  dims := by simp [State.softReset]
  polys r := by simpa [State.softReset, State.getPoly] using polyHeld_zero
  status := ⟨nofun, fun _ => ⟨rfl, rfl⟩, nofun⟩
  cursor := ⟨(by decide : 0 < 256), (by decide : 0 < 256), nofun⟩
  stream := State.streamWf_of_none rfl rfl

theorem State.freePlanes_inv (hs : s.Inv) (r : PlaneReach) : (s.freePlanes r).Inv := by
  cases r <;> exact ⟨hs.dram, hs.dims, hs.polys, hs.status, hs.cursor, hs.stream⟩

/-- The range an abandoned command may have written is clipped to DRAM (70_reset_and_hazards.md R523). -/
theorem State.freeDram_clip_inv (hs : s.Inv) (r : Nat × Nat) : (s.freeDram (clipRange r).1 (clipRange r).2).Inv := by
  refine ⟨?_, hs.dims, hs.polys, hs.status, hs.cursor, hs.stream⟩
  by_cases hr : r.1 ≤ Config.dramBytes
  · refine Memory.wf_write _ _ _ hs.dram ?_
    simp only [clipRange, List.length_map, List.length_range]
    omega
  · have hz : (clipRange r).2 = 0 := by simp only [clipRange]; omega
    rw [hz]
    exact Memory.wf_write_nil _ _ hs.dram

theorem State.abandon_inv (hs : s.Inv) : s.abandon.Inv := by
  unfold State.abandon
  split
  · exact hs
  · exact State.freePlanes_inv (State.freeDram_clip_inv hs _) _

theorem State.writeCtrl_inv (hs : s.Inv) (d : Word) : (s.writeCtrl d).Inv := by
  unfold State.writeCtrl
  split
  · split
    · exact (State.abandon_inv hs).softReset
    · exact hs.softReset
  · exact ⟨hs.dram, hs.dims, hs.polys, hs.status, hs.cursor, hs.stream⟩

theorem Status.wf_clear {st : Status} (h : st.wf) (d : Word) : (st.clear d).wf := by
  obtain ⟨hbusy, hno, herr⟩ := h
  refine ⟨fun hb => ?_, fun he => ?_, fun he => ?_⟩
  · simp [Status.clear, hbusy hb]
  · cases hd : d.getLsbD 2 with
    | true => simp only [Status.clear, hd, if_true, and_self]
    | false =>
      have he' : st.err = false := by simpa only [Status.clear, hd, Bool.not_false, Bool.and_true] using he
      simpa only [Status.clear, hd, Bool.false_eq_true, if_false] using hno he'
  · obtain ⟨he, hd⟩ := Bool.and_eq_true_iff.1 he
    have hd : d.getLsbD 2 = false := (Bool.not_eq_true' _).mp hd
    simpa only [Status.clear, hd, Bool.false_eq_true, if_false] using herr he

theorem State.writeDramWord_eq (k : Nat) (be : BitVec 4) (d : Word) :
    s.writeDramWord k be d = { s with dram := (s.writeDramWord k be d).dram } :=
  List.foldlRecOn (motive := fun t : State => t = { s with dram := t.dram }) _ _ rfl fun t ht i _ => by
    rw [ht]
    split <;> rfl

theorem State.writeDramWord_wf (hs : Memory.wf s.dram = true) {k : Nat} (hk : k < 1024) (be : BitVec 4) (d : Word) :
    Memory.wf (s.writeDramWord k be d).dram = true :=
  List.foldlRecOn (motive := fun t : State => Memory.wf t.dram = true) _ _ hs fun t ht i hi => by
    have hi := List.mem_range.1 hi
    split
    · exact Memory.wf_write _ _ _ ht (by simp [Config.dramBytes]; omega)
    · exact ht

theorem State.writeDramWord_inv (hs : s.Inv) {k : Nat} (hk : k < 1024) (be : BitVec 4) (d : Word) :
    (s.writeDramWord k be d).Inv := by
  rw [State.writeDramWord_eq]
  exact ⟨State.writeDramWord_wf hs.dram hk be d, hs.dims, hs.polys, hs.status, hs.cursor, hs.stream⟩

/-- A branch of the map that gives another region is not taken. -/
theorem Region.of_ite {c : Prop} [Decidable c] {q r r' : Region} (h : (if c then q else r') = r) (hne : q ≠ r) : r' = r := by
  split at h
  · exact absurd h hne
  · exact h

theorem regionOf_dram_lt {a : BitVec 14} {k : Nat} (h : regionOf a = .dram k) : k < 1024 := by
  dsimp only [regionOf] at h
  iterate 11 replace h := Region.of_ite h nofun
  by_cases hn : a.toNat < 0x800
  · rw [if_pos hn] at h
    injection h
    omega
  · rw [if_neg hn] at h
    iterate 3 replace h := Region.of_ite h nofun
    cases h

theorem State.writeIdle_inv (hs : s.Inv) (a : BitVec 14) (be : BitVec 4) (d : Word) : (s.writeIdle a be d).Inv := by
  unfold State.writeIdle
  cases h : regionOf a with
  | ctrl =>
    dsimp only
    split
    · exact State.writeCtrl_inv hs d
    · exact hs
  | status =>
    dsimp only
    split
    · exact hs.withStatus (Status.wf_clear hs.status d)
    · exact hs
  | cmd =>
    dsimp only
    split
    · exact hs.accept d
    · exact hs
  | dram k => exact State.writeDramWord_inv hs (regionOf_dram_lt h) be d
  | arg | dplane | vplane | rplane => exact ⟨hs.dram, hs.dims, hs.polys, hs.status, hs.cursor, hs.stream⟩
  | id | res | mdim | zstate | sdata | sremain | reserved => exact hs

theorem State.writeBusy_inv (hs : s.Inv) {a : BitVec 14} {be : BitVec 4} {d : Word} (h : s.writeBusy a be d = .next t) :
    t.Inv := by
  unfold State.writeBusy at h
  cases hr : regionOf a with
  | ctrl =>
    simp only [hr, Host.Outcome.next.injEq] at h
    rw [← h]
    split
    · exact State.writeCtrl_inv hs d
    · exact hs
  | status =>
    simp only [hr, Host.Outcome.next.injEq] at h
    rw [← h]
    split
    · exact hs.withStatus (Status.wf_clear hs.status d)
    · exact hs
  | cmd =>
    simp only [hr, Host.Outcome.next.injEq] at h
    rw [← h]
    split
    · exact hs.withStatus hs.status
    · exact hs
  | arg | dram | dplane | vplane | rplane =>
    simp only [hr] at h
    split at h <;> cases h
    exact hs
  | id | res | mdim | zstate | sdata | sremain | reserved =>
    simp only [hr, Host.Outcome.next.injEq] at h
    exact h ▸ hs

theorem State.hostAccess_inv (hs : s.Inv) {a : Access} (h : s.hostAccess a = .next t) : t.Inv := by
  cases a with
  | read a =>
    cases h
    exact State.hostRead_inv hs a
  | write a be d =>
    change s.hostWrite a be d = .next t at h
    unfold State.hostWrite at h
    split at h
    · exact State.writeBusy_inv hs h
    · cases h
      exact State.writeIdle_inv hs a be d

theorem step_inv (hs : s.Inv) (h : step s = .next t) : t.Inv := by
  unfold step State.move at h
  split at h
  · exact State.blockTurn_inv hs h
  · next turn rest _ =>
    have hrest : State.Inv { s with agenda := rest } := ⟨hs.dram, hs.dims, hs.polys, hs.status, hs.cursor, hs.stream⟩
    cases turn with
    | host a => exact State.hostAccess_inv hrest h
    | block => exact State.blockTurn_inv hrest h

end
/-! ### Frames, reset and the invariant settled -/

/-- Settles O9: each field is read off the writes a command may make. -/
theorem frameOfRegisters : Obligations.FrameOfRegisters := by
  intro i s t h
  obtain ⟨u, hu, rfl⟩ | ⟨e, rfl⟩ := exec_cases h
  · obtain ⟨harg, hcmd, hirq, hstatus, hrest⟩ := hu.untouched
    exact ⟨fun _ => hu.res, fun _ => hu.poly, harg, hcmd, hirq, by simp [hstatus], hrest⟩
  · exact ⟨fun _ _ => rfl, fun _ _ => rfl, rfl, rfl, rfl, rfl, rfl, rfl, rfl⟩

/-- Settles O10: the only DRAM write is that of the destination range. -/
theorem frameOfDram : Obligations.FrameOfDram := by
  intro i s t h a ha
  obtain ⟨u, hu, rfl⟩ | ⟨e, rfl⟩ := exec_cases h
  · exact hu.dram ha
  · rfl

/-- Settles O11: cells change inside the window, or a new matrix is 0 outside its own. -/
theorem frameOfMatrix : Obligations.FrameOfMatrix := by
  intro i s t hs h
  obtain ⟨u, hu, rfl⟩ | ⟨e, rfl⟩ := exec_cases h
  · exact ⟨hu.dims, hu.planes, hu.rplane, fun hd _ _ => hu.planes_outside hs hd,
      fun hd _ _ _ _ => hu.matrix_outside hd⟩
  · exact ⟨fun _ => ⟨rfl, rfl⟩, fun _ => ⟨rfl, rfl⟩, fun _ => rfl, fun _ _ _ _ => ⟨rfl, rfl⟩, fun _ _ ht => nomatch ht⟩

/-- Settles O17: every component of the reset state is in its smallest form. -/
theorem invariantAtReset : Obligations.InvariantAtReset where
  dram := rfl
  dims := ⟨Nat.zero_le _, Nat.zero_le _⟩
  polys r := by simpa [State.reset, State.getPoly] using polyHeld_zero
  status := ⟨nofun, fun _ => ⟨rfl, rfl⟩, nofun⟩
  cursor := ⟨(by decide : 0 < 256), (by decide : 0 < 256), nofun⟩
  stream := State.streamWf_of_none rfl rfl

/-- Settles O18: what a command writes keeps the invariant, and so does every host access. -/
theorem stepKeepsInvariant : Obligations.StepKeepsInvariant := fun _ _ => step_inv

end Sys2Proof.Machine
end

section
namespace Sys2Proof.Machine

/-! ### Two states no command tells apart (10_state.md R46, R47) -/

/-- The state with other planes. -/
def State.withPlanes (s : State) (d v r : Plane) : State := { s with dplane := d, vplane := v, rplane := r }

/-- The planes look like those of `s`: they agree on D and RSV in the window, and on V in its defined cells or, with `seeV`,
in all its cells. -/
def State.Sees (s : State) (seeV : Bool) (d v r : Plane) : Prop :=
  ∀ x y, x < s.width → y < s.height →
    Plane.get d x y = Plane.get s.dplane x y ∧ Plane.get r x y = Plane.get s.rplane x y ∧
      ((seeV = true ∨ Plane.get s.dplane x y = true) → Plane.get v x y = Plane.get s.vplane x y)

/-- The two states differ only in plane bits that look alike: with `seeV` this is `SameInWindow`, without it `SameCells`. -/
def State.Alike (seeV : Bool) (s t : State) : Prop := ∃ d v r, t = s.withPlanes d v r ∧ s.Sees seeV d v r

theorem State.withoutPlanes_eq_iff {s t : State} :
    s.withoutPlanes = t.withoutPlanes ↔ t = s.withPlanes t.dplane t.vplane t.rplane := by
  cases s
  cases t
  simp only [State.withoutPlanes, State.withPlanes, State.mk.injEq]
  exact ⟨fun h => by simp [h], fun h => by simp [h]⟩

theorem State.sameInWindow_iff {s t : State} : s.SameInWindow t ↔ s.Alike true t := by
  constructor
  · rintro ⟨hrest, hwin⟩
    refine ⟨_, _, _, State.withoutPlanes_eq_iff.1 hrest, fun x y hx hy => ?_⟩
    obtain ⟨hd, hv, hr⟩ := hwin x y hx hy
    exact ⟨hd.symm, hr.symm, fun _ => hv.symm⟩
  · rintro ⟨d, v, r, rfl, hsees⟩
    refine ⟨rfl, fun x y hx hy => ?_⟩
    obtain ⟨hd, hr, hv⟩ := hsees x y hx hy
    exact ⟨hd.symm, (hv (.inl rfl)).symm, hr.symm⟩

/-- Two cells have one code when they agree on D, and on V where D is set. -/
theorem State.cellcode_eq_iff {s t : State} {x y : Nat} :
    s.cellcode x y = t.cellcode x y ↔
      Plane.get t.dplane x y = Plane.get s.dplane x y ∧
        (Plane.get s.dplane x y = true → Plane.get t.vplane x y = Plane.get s.vplane x y) := by
  unfold State.cellcode
  cases Plane.get s.dplane x y <;> cases Plane.get t.dplane x y <;> cases Plane.get s.vplane x y <;>
    cases Plane.get t.vplane x y <;> simp

theorem State.sameCells_iff {s t : State} : s.SameCells t ↔ s.Alike false t := by
  constructor
  · rintro ⟨hrest, hwin⟩
    refine ⟨_, _, _, State.withoutPlanes_eq_iff.1 hrest, fun x y hx hy => ?_⟩
    obtain ⟨hcode, hr⟩ := hwin x y hx hy
    obtain ⟨hd, hv⟩ := State.cellcode_eq_iff.1 hcode
    exact ⟨hd, hr.symm, fun h => hv (h.resolve_left nofun)⟩
  · rintro ⟨d, v, r, rfl, hsees⟩
    refine ⟨rfl, fun x y hx hy => ?_⟩
    obtain ⟨hd, hr, hv⟩ := hsees x y hx hy
    exact ⟨State.cellcode_eq_iff.2 ⟨hd, fun h => hv (.inr h)⟩, hr.symm⟩

/-! #### Results that look alike -/

/-- Both rules raise the same error, or answer states that look alike. -/
def Result.Alike (seeV : Bool) : Result → Result → Prop
  | .ok u, .ok u' => u.Alike seeV u'
  | .error e, .error e' => e = e'
  | _, _ => False

/-- The command ends at both states, and the two ends look alike. -/
def SameEnds (seeV : Bool) (i : Instr) (s t : State) : Prop :=
  ∃ s' t', exec i s = .next s' ∧ exec i t = .next t' ∧ s'.Alike seeV t'

section
variable {seeV : Bool} {s t : State} {d v r : Plane}

theorem SameEnds.of_results {i : Instr} {q q' : Result} (hsees : s.Sees seeV d v r) (hq : exec i s = s.finish q)
    (hq' : exec i (s.withPlanes d v r) = (s.withPlanes d v r).finish q') (h : Result.Alike seeV q q') :
    SameEnds seeV i s (s.withPlanes d v r) := by
  cases q with
  | ok u =>
    cases q' with
    | ok u' =>
      obtain ⟨d', v', r', rfl, hu⟩ := h
      exact ⟨_, _, hq, hq', d', v', r', rfl, hu⟩
    | error => exact h.elim
  | error e =>
    cases q' with
    | ok => exact h.elim
    | error e' =>
      cases h
      exact ⟨_, _, hq, hq', d, v, r, rfl, hsees⟩

section
variable {c : Bool} {e : Raise} {f g : Unit → Result} {i : Fin 8}

theorem Result.Alike.require (h : c = true → Result.Alike seeV (f ()) (g ())) :
    Result.Alike seeV (require c e f) (require c e g) := by
  cases c with
  | true => exact h rfl
  | false => exact rfl

theorem Result.Alike.requireArg {lo hi : Nat} {k : ErrKind}
    (h : lo ≤ s.argv i → s.argv i ≤ hi → Result.Alike seeV (f ()) (g ())) :
    Result.Alike seeV (s.requireArg i lo hi k f) ((s.withPlanes d v r).requireArg i lo hi k g) :=
  .require fun hc => by
    simp only [Bool.and_eq_true, decide_eq_true_eq] at hc
    exact h hc.1 hc.2

theorem Result.Alike.requireRange {n : Nat} (h : Result.Alike seeV (f ()) (g ())) :
    Result.Alike seeV (s.requireRange i n f) ((s.withPlanes d v r).requireRange i n g) :=
  .require fun _ => h

theorem Result.Alike.withCoord {dim : Nat} {f g : Nat → Result} (h : ∀ x, x < dim → Result.Alike seeV (f x) (g x)) :
    Result.Alike seeV (s.withCoord i dim f) ((s.withPlanes d v r).withCoord i dim g) := by
  change Result.Alike seeV (match resolve s.arg[i] dim with | none => _ | some x => f x)
    (match resolve s.arg[i] dim with | none => _ | some x => g x)
  cases hx : resolve s.arg[i] dim with
  | none => exact rfl
  | some x => exact h x (resolve_lt hx)

theorem Result.Alike.andThen {α : Type} {x : Except Raise α} {f g : α → Result} (h : ∀ a, Result.Alike seeV (f a) (g a)) :
    Result.Alike seeV (andThen x f) (andThen x g) := by
  cases x with
  | error => exact rfl
  | ok a => exact h a

end

theorem State.Sees.refl (s : State) : s.Sees seeV s.dplane s.vplane s.rplane := fun _ _ _ _ => ⟨rfl, rfl, fun _ => rfl⟩

/-! #### Commands that neither read nor write a plane -/

/-- The rule of the command neither reads nor writes a plane. -/
def planeBlind : Instr → Bool
  | .nop | .sStreamCancel | .gfAdd | .gfMul | .gfInv | .gfPow | .gfExp | .gfLog => true
  | .pLoad _ | .pStore _ | .pMono _ | .pAdd _ _ _ | .pMul _ _ _ | .pScale _ _ | .pMulmono _ _ => true
  | .pRem _ _ _ | .pEval _ | .pGen _ | .pEuclid _ _ _ _ | .rsEncode | .rsSyndrome | .rsDecode => true
  | .bFormat | .bVersion | .bFormatDecode | .bVersionDecode | .zStart | .lMaskBit => true
  | _ => false

section
variable (w : State → State)

theorem map_require (c : Bool) (e : Raise) (f : Unit → Result) :
    Except.map w (require c e f) = require c e fun u => Except.map w (f u) := by
  cases c <;> rfl

theorem map_andThen {α : Type} (x : Except Raise α) (f : α → Result) :
    Except.map w (andThen x f) = andThen x fun a => Except.map w (f a) := by
  cases x <;> rfl

theorem map_requireArg (i : Fin 8) (lo hi : Nat) (k : ErrKind) (f : Unit → Result) :
    Except.map w (s.requireArg i lo hi k f) = s.requireArg i lo hi k fun u => Except.map w (f u) := map_require w _ _ f

theorem map_requireByte (i : Fin 8) (f : Unit → Result) :
    Except.map w (s.requireByte i f) = s.requireByte i fun u => Except.map w (f u) := map_require w _ _ f

theorem map_requireRange (i : Fin 8) (n : Nat) (f : Unit → Result) :
    Except.map w (s.requireRange i n f) = s.requireRange i n fun u => Except.map w (f u) := map_require w _ _ f

end

/-- A plane-blind rule commutes with a change of the planes. -/
theorem exec_withPlanes {i : Instr} (h : planeBlind i = true) :
    ∃ q, exec i s = s.finish q ∧
      exec i (s.withPlanes d v r) = (s.withPlanes d v r).finish (Except.map (fun u => u.withPlanes d v r) q) := by
  cases i with
  | nop | sStreamCancel | gfExp | pAdd =>
    refine ⟨.ok _, rfl, ?_⟩
    rfl
  | gfAdd | gfMul | gfInv | gfPow | gfLog | pLoad | pStore | pMono | pMul | pScale | pMulmono | pRem | pEval | pGen | pEuclid
  | rsEncode | rsSyndrome | rsDecode | bFormat | bVersion | bFormatDecode | bVersionDecode | zStart | lMaskBit =>
    refine ⟨_, rfl, ?_⟩
    simp only [map_require, map_andThen, map_requireArg, map_requireByte, map_requireRange]
    rfl
  | mNew | mSet | mGet | mRect | mNegate | mTranspose | mBorder | mPopcount | mCountPattern | mCountBoxes | mAssertDrawn
  | mPenalty | rRaw | rGif | lTemplate | lReserve | lFormatRead | lVersionRead | lDraw | lRead | zNext | zPut | zGet
  | lMaskApply => cases h

theorem effects_of_planeBlind {i : Instr} (h : planeBlind i = true) :
    (effects i).dims = false ∧ (effects i).matrix = false ∧ (effects i).rsv = false := by
  cases i with
  | mNew | mSet | mGet | mRect | mNegate | mTranspose | mBorder | mPopcount | mCountPattern | mCountBoxes | mAssertDrawn
  | mPenalty | rRaw | rGif | lTemplate | lReserve | lFormatRead | lVersionRead | lDraw | lRead | zNext | zPut | zGet
  | lMaskApply => cases h
  | _ => exact ⟨rfl, rfl, rfl⟩

/-- States that differ in their planes alone see alike the same planes. -/
theorem State.Sees.congr {u : State} (h : s.Sees seeV d v r) (hdims : u.height = s.height ∧ u.width = s.width)
    (hd : u.dplane = s.dplane) (hv : u.vplane = s.vplane) (hr : u.rplane = s.rplane) : u.Sees seeV d v r := by
  intro x y hx hy
  rw [hd, hv, hr]
  exact h x y (hdims.2 ▸ hx) (hdims.1 ▸ hy)

theorem exec_planes {i : Instr} (hdims : (effects i).dims = false) (hm : (effects i).matrix = false)
    (hr : (effects i).rsv = false) (h : exec i s = .next t) :
    (t.height = s.height ∧ t.width = s.width) ∧ (t.dplane = s.dplane ∧ t.vplane = s.vplane) ∧ t.rplane = s.rplane := by
  obtain ⟨u, hu, rfl⟩ | ⟨e, rfl⟩ := exec_cases h
  · exact ⟨hu.dims hdims, hu.planes hm, hu.rplane hr⟩
  · exact ⟨⟨rfl, rfl⟩, ⟨rfl, rfl⟩, rfl⟩

theorem sameEnds_of_planeBlind {i : Instr} (h : planeBlind i = true) (hsees : s.Sees seeV d v r) :
    SameEnds seeV i s (s.withPlanes d v r) := by
  obtain ⟨q, hq, hq'⟩ := exec_withPlanes (s := s) (d := d) (v := v) (r := r) h
  obtain ⟨hdims, hm, hr⟩ := effects_of_planeBlind h
  refine .of_results hsees hq hq' ?_
  cases q with
  | error e => exact rfl
  | ok u =>
    obtain ⟨h1, ⟨h2, h3⟩, h4⟩ := exec_planes hdims hm hr hq
    exact ⟨d, v, r, rfl, hsees.congr h1 h2 h3 h4⟩

/-! #### What commands read of the planes -/

/-- Two loops whose rounds agree on the members of the list. -/
theorem foldl_congr_of_mem {α β : Type} {f g : β → α → β} {l : List α} (b : β) (hfg : ∀ b, ∀ a ∈ l, f b a = g b a) :
    l.foldl f b = l.foldl g b := by
  induction l generalizing b with
  | nil => rfl
  | cons a l ih =>
    rw [List.foldl_cons, List.foldl_cons, hfg b a List.mem_cons_self, ih _ fun b a ha => hfg b a (List.mem_cons_of_mem _ ha)]

namespace State.Sees

variable (h : s.Sees seeV d v r)
include h

theorem dplane {x y : Nat} (hx : x < s.width) (hy : y < s.height) : Plane.get d x y = Plane.get s.dplane x y := (h x y hx hy).1

theorem rplane {x y : Nat} (hx : x < s.width) (hy : y < s.height) : Plane.get r x y = Plane.get s.rplane x y :=
  (h x y hx hy).2.1

theorem vplane {x y : Nat} (hx : x < s.width) (hy : y < s.height) (hd : Plane.get s.dplane x y = true) :
    Plane.get v x y = Plane.get s.vplane x y := (h x y hx hy).2.2 (.inr hd)

theorem dark {x y : Nat} (hx : x < s.width) (hy : y < s.height) : (s.withPlanes d v r).dark x y = s.dark x y := by
  change (Plane.get d x y && Plane.get v x y) = (Plane.get s.dplane x y && Plane.get s.vplane x y)
  rw [h.dplane hx hy]
  cases hd : Plane.get s.dplane x y with
  | true => rw [h.vplane hx hy hd]
  | false => rfl

theorem cellcode {x y : Nat} (hx : x < s.width) (hy : y < s.height) :
    (s.withPlanes d v r).cellcode x y = s.cellcode x y :=
  (State.cellcode_eq_iff.2 ⟨h.dplane hx hy, h.vplane hx hy⟩).symm

theorem drawn : (s.withPlanes d v r).drawn = s.drawn := allCells_congr fun _ _ hx hy => h.dplane hx hy

theorem rowWindow {y len x : Nat} (hx : x + len ≤ s.width) (hy : y < s.height) :
    (s.withPlanes d v r).rowWindow y len x = s.rowWindow y len x :=
  foldl_congr_of_mem _ fun n i hi => by
    have := List.mem_range.1 hi
    rw [h.dark (by omega) hy]

theorem countPattern {y len p0 p1 np : Nat} (hy : y < s.height) :
    (s.withPlanes d v r).countPattern y len p0 p1 np = s.countPattern y len p0 p1 np :=
  List.countP_congr fun x hx => by
    have hx := List.mem_range.1 hx
    rw [h.rowWindow (by change x < s.width + 1 - len at hx; omega) hy]

end State.Sees

theorem boxAt_congr {f g : Nat → Nat → Bool} {w ht x y : Nat} (hfg : ∀ x y, x < w → y < ht → f x y = g x y)
    (hx : x + 1 < w) (hy : y + 1 < ht) : boxAt f x y = boxAt g x y := by
  simp only [boxAt, hfg x y (by omega) (by omega), hfg (x + 1) y hx (by omega), hfg x (y + 1) (by omega) hy,
    hfg (x + 1) (y + 1) hx hy]

theorem matRows_congr {f g : Nat → Nat → Bool} {w ht : Nat} (hfg : ∀ x y, x < w → y < ht → f x y = g x y) :
    matRows ht w f = matRows ht w g :=
  List.map_congr_left fun y hy => List.map_congr_left fun x hx => hfg x y (List.mem_range.1 hx) (List.mem_range.1 hy)

theorem matLines_congr {f g : Nat → Nat → Bool} {w ht : Nat} (hfg : ∀ x y, x < w → y < ht → f x y = g x y) :
    matLines ht w f = matLines ht w g := by
  have hcols : matCols ht w f = matCols ht w g := matRows_congr fun y x hy hx => hfg x y hx hy
  rw [matLines, matLines, matRows_congr hfg, hcols]

theorem penalty1_congr {f g : Nat → Nat → Bool} {w ht : Nat} (hfg : ∀ x y, x < w → y < ht → f x y = g x y) :
    penalty1 ht w f = penalty1 ht w g := by rw [penalty1, penalty1, matLines_congr hfg]

theorem penalty2_congr {f g : Nat → Nat → Bool} {w ht : Nat} (hfg : ∀ x y, x < w → y < ht → f x y = g x y) :
    penalty2 ht w f = penalty2 ht w g := by
  rw [penalty2, penalty2, countCells_congr fun x y hx hy => boxAt_congr hfg (by omega) (by omega)]

theorem penalty3_congr {f g : Nat → Nat → Bool} {w ht : Nat} (hfg : ∀ x y, x < w → y < ht → f x y = g x y) :
    penalty3 ht w f = penalty3 ht w g := by rw [penalty3, penalty3, matLines_congr hfg]

theorem penalty_congr {f g : Nat → Nat → Bool} {w ht : Nat} (hfg : ∀ x y, x < w → y < ht → f x y = g x y) :
    penalty ht w f = penalty ht w g := by
  rw [penalty, penalty, penalty1_congr hfg, penalty2_congr hfg, penalty3_congr hfg, penalty4, penalty4, countCells_congr hfg]

theorem rowBits_congr {n : Nat} {f g : Nat → Bool} (hfg : ∀ i, i < n → f i = g i) : rowBits n f = rowBits n g := by
  induction n with
  | zero => rfl
  | succ n ih => rw [rowBits, rowBits, ih fun i hi => hfg i (by omega), hfg n (by omega)]

theorem Cursor.seek_congr {rsv rsv' : Plane} {n : Nat} {c : Cursor} (hc : c.Within n)
    (hrsv : ∀ x y, x < n → y < n → Plane.get rsv x y = Plane.get rsv' x y) : c.seek rsv n = c.seek rsv' n := by
  unfold Cursor.seek
  generalize c.fuel n = k
  induction k generalizing c with
  | zero => rfl
  | succ k ih =>
    rw [Cursor.seekFor, Cursor.seekFor, hrsv _ _ (Cursor.cell_lt hc).1 (Cursor.cell_lt hc).2, ih (Cursor.within_advance hc)]

namespace State.Sees

variable (h : s.Sees seeV d v r)
include h

theorem readBits {n : Nat} {cell : Nat → Nat × Nat} (hcell : ∀ i, i < n → (cell i).1 < s.width ∧ (cell i).2 < s.height) :
    (s.withPlanes d v r).readBits n cell = s.readBits n cell :=
  rowBits_congr fun i hi => h.dark (hcell i hi).1 (hcell i hi).2

theorem sought (hs : s.cursorWf) (hv : s.cursor.valid = true) : (s.withPlanes d v r).sought = s.sought :=
  Cursor.seek_congr (State.cursor_within hs hv) fun _ _ hx hy => h.rplane hx ((hs.2.2 hv).1 ▸ hy)

end State.Sees

end
end Sys2Proof.Machine
end

section
namespace Sys2Proof.Machine

/-! #### Commands that read the planes and write none -/

theorem State.isSymbol_dims {s : State} (hsym : s.isSymbol = true) : s.height = s.width ∧ 21 ≤ s.width := by
  obtain ⟨hsq, hsize⟩ := Bool.and_eq_true_iff.1 hsym
  exact ⟨of_decide_eq_true hsq, (of_decide_eq_true hsize).1⟩

section
variable {seeV : Bool} {s : State} {d v r : Plane} (h : s.Sees seeV d v r)
include h

theorem mGet_sameEnds : SameEnds seeV .mGet s (s.withPlanes d v r) := by
  refine .of_results h rfl rfl (.withCoord fun x hx => .withCoord fun y hy => ?_)
  rw [h.cellcode hx hy]
  exact ⟨d, v, r, rfl, h⟩

omit h in
/-- Results that add one RES register to states that look alike. -/
theorem Result.Alike.ok_setResNat {u : State} {k : Fin 4} {n n' : Nat} (h : u.Sees seeV d v r) (hn : n' = n) :
    Result.Alike seeV (.ok (u.setResNat k n)) (.ok ((u.withPlanes d v r).setResNat k n')) :=
  hn ▸ ⟨d, v, r, rfl, h⟩

theorem mPopcount_sameEnds : SameEnds seeV .mPopcount s (s.withPlanes d v r) :=
  .of_results h (q := .ok _) (q' := .ok _) rfl rfl (.ok_setResNat h (countCells_congr fun _ _ => h.dark))

theorem mCountPattern_sameEnds : SameEnds seeV .mCountPattern s (s.withPlanes d v r) :=
  .of_results h rfl rfl (.withCoord fun _ hy => .requireArg fun _ _ => .requireArg fun _ _ => .require fun _ =>
    .require fun _ => .ok_setResNat h (h.countPattern hy))

theorem mCountBoxes_sameEnds : SameEnds seeV .mCountBoxes s (s.withPlanes d v r) := by
  refine .of_results h rfl rfl (.withCoord fun y _ => .require fun hy => .ok_setResNat h (List.countP_congr fun x hx => ?_))
  have hx : x < s.width - 1 := List.mem_range.1 hx
  rw [boxAt_congr (fun _ _ => h.dark) (by omega) (of_decide_eq_true hy)]

theorem mAssertDrawn_sameEnds : SameEnds seeV .mAssertDrawn s (s.withPlanes d v r) := by
  refine .of_results h rfl rfl ?_
  rw [h.drawn]
  exact .require fun _ => ⟨d, v, r, rfl, h⟩

omit h in
theorem Result.Alike.ok_setCursorRes {u : State} {a b c e a' b' c' e' : Nat} (h : u.Sees seeV d v r) (ha : a' = a)
    (hb : b' = b) (hc : c' = c) (he : e' = e) :
    Result.Alike seeV (.ok (u.setCursorRes a b c e)) (.ok ((u.withPlanes d v r).setCursorRes a' b' c' e')) := by
  subst ha hb hc he
  exact ⟨d, v, r, rfl, h⟩

theorem mPenalty_sameEnds : SameEnds seeV .mPenalty s (s.withPlanes d v r) := by
  refine .of_results h rfl rfl (.require fun _ => ?_)
  have hdark := fun x y => h.dark (x := x) (y := y)
  rw [h.drawn]
  exact .require fun _ => .ok_setCursorRes h (penalty_congr hdark) (penalty1_congr hdark) (penalty2_congr hdark)
    (penalty3_congr hdark)

theorem rRaw_sameEnds : SameEnds seeV .rRaw s (s.withPlanes d v r) := by
  refine .of_results h rfl rfl (.requireArg fun _ _ => .requireArg fun _ _ => .require fun _ => ?_)
  rw [h.drawn]
  exact .require fun _ => .require fun _ => ⟨d, v, r, rfl, h⟩

theorem rGif_sameEnds : SameEnds seeV .rGif s (s.withPlanes d v r) := by
  refine .of_results h rfl rfl (.requireArg fun _ _ => .require fun _ => ?_)
  rw [h.drawn]
  exact .require fun _ => .require fun _ => .require fun _ => ⟨d, v, r, rfl, h⟩

theorem lFormatRead_sameEnds : SameEnds seeV .lFormatRead s (s.withPlanes d v r) := by
  refine .of_results h rfl rfl (.require fun hsym => ?_)
  obtain ⟨hsq, hw⟩ := State.isSymbol_dims hsym
  have h1 := h.readBits (n := 15) (cell := fmt1) fun i _ => ⟨(fmt1_lt hw).1, hsq ▸ (fmt1_lt hw).2⟩
  have h2 := h.readBits (n := 15) (cell := fmt2 s.width) fun i hi => ⟨(fmt2_lt hw hi).1, hsq ▸ (fmt2_lt hw hi).2⟩
  change Result.Alike seeV _ (andThen (fmtdecode ((s.withPlanes d v r).readBits 15 fmt1)
    ((s.withPlanes d v r).readBits 15 (fmt2 s.width))) fun q => .ok ((s.withPlanes d v r).setCursorRes q.1.1 q.1.2 q.2
      ((s.withPlanes d v r).readBits 15 fmt1 ||| ((s.withPlanes d v r).readBits 15 (fmt2 s.width) <<< 16))))
  rw [h1, h2]
  exact .andThen fun _ => ⟨d, v, r, rfl, h⟩

theorem lVersionRead_sameEnds : SameEnds seeV .lVersionRead s (s.withPlanes d v r) := by
  refine .of_results h rfl rfl (.require fun hsym => ?_)
  change Result.Alike seeV _ (if (s.width - 17) / 4 < 7 then _ else _)
  split
  · exact ⟨d, v, r, rfl, h⟩
  · obtain ⟨hsq, hw⟩ := State.isSymbol_dims hsym
    have h1 := h.readBits (n := 18) (cell := ver1 s.width) fun i hi => ⟨(ver1_lt hw hi).1, hsq ▸ (ver1_lt hw hi).2⟩
    have h2 := h.readBits (n := 18) (cell := ver2 s.width) fun i hi => ⟨(ver2_lt hw hi).1, hsq ▸ (ver2_lt hw hi).2⟩
    change Result.Alike seeV _ (andThen (verdecode ((s.withPlanes d v r).readBits 18 (ver1 s.width))
      ((s.withPlanes d v r).readBits 18 (ver2 s.width))) fun q => .ok ((s.withPlanes d v r).setCursorRes q.1
        ((s.withPlanes d v r).readBits 18 (ver1 s.width)) q.2 ((s.withPlanes d v r).readBits 18 (ver2 s.width))))
    rw [h1, h2]
    exact .andThen fun _ => ⟨d, v, r, rfl, h⟩

theorem lRead_sameEnds : SameEnds seeV .lRead s (s.withPlanes d v r) := by
  refine .of_results h rfl rfl (.requireArg fun _ _ => .requireArg fun _ _ => .require fun hdims => .requireRange <|
    .require fun _ => ?_)
  obtain ⟨hh, hw⟩ := of_decide_eq_true hdims
  have hin : ∀ c ∈ (zz (s.argv 0)).take (8 * s.argv 3), c.1 < s.width ∧ c.2 < s.height := fun c hc => by
    rw [hh, hw]
    exact zz_lt (List.mem_of_mem_take hc)
  have hall : ((zz (s.argv 0)).take (8 * s.argv 3)).all (fun c => Plane.get d c.1 c.2) =
      ((zz (s.argv 0)).take (8 * s.argv 3)).all (fun c => Plane.get s.dplane c.1 c.2) := by
    rw [Bool.eq_iff_iff, List.all_eq_true, List.all_eq_true]
    exact forall_congr' fun c => forall_congr' fun hc => by rw [h.dplane (hin c hc).1 (hin c hc).2]
  change Result.Alike seeV _ (require (((zz (s.argv 0)).take (8 * s.argv 3)).all fun c => Plane.get d c.1 c.2) _ _)
  rw [hall]
  refine .require fun hdrawn => ?_
  have hbytes : (s.withPlanes d v r).readBytes (s.argv 0) (s.argv 1) (s.argv 3) =
      s.readBytes (s.argv 0) (s.argv 1) (s.argv 3) := by
    refine congrArg (packBytes _) (List.map_congr_left fun c hc => ?_)
    change (Plane.get v c.1 c.2 ^^ _) = (Plane.get s.vplane c.1 c.2 ^^ _)
    rw [h.vplane (hin c hc).1 (hin c hc).2 (List.all_eq_true.1 hdrawn c hc)]
  change Result.Alike seeV _ (.ok (((s.withPlanes d v r).memWrite (s.argv 2)
    ((s.withPlanes d v r).readBytes (s.argv 0) (s.argv 1) (s.argv 3))).setResNat 0 (s.argv 3)))
  rw [hbytes]
  exact ⟨d, v, r, rfl, h⟩

theorem zNext_sameEnds (hs : s.cursorWf) : SameEnds seeV .zNext s (s.withPlanes d v r) := by
  refine .of_results h rfl rfl (.require fun hv => ?_)
  rw [h.sought hs hv]
  dsimp only
  split
  · exact ⟨d, v, r, rfl, h⟩
  · exact ⟨d, v, r, rfl, h⟩

theorem zGet_sameEnds (hs : s.cursorWf) : SameEnds seeV .zGet s (s.withPlanes d v r) := by
  refine .of_results h rfl rfl (.require fun hv => ?_)
  have hin := Cursor.cell_lt (State.sought_within hs hv)
  have hy : s.sought.cell.2 < s.height := (hs.2.2 hv).1 ▸ hin.2
  rw [h.sought hs hv]
  refine .require fun _ => ?_
  change Result.Alike seeV _ (require (Plane.get d s.sought.cell.1 s.sought.cell.2) _ _)
  rw [h.dplane hin.1 hy]
  refine .require fun hd => .ok_setCursorRes h rfl rfl rfl ?_
  change (Plane.get v s.sought.cell.1 s.sought.cell.2 ^^ _).toNat = _
  rw [h.vplane hin.1 hy hd]

/-! #### Commands that write the planes -/

theorem mNew_sameEnds : SameEnds seeV .mNew s (s.withPlanes d v r) :=
  .of_results h rfl rfl (.requireArg fun _ _ => .requireArg fun _ _ => ⟨_, _, _, rfl, State.Sees.refl _⟩)

theorem lTemplate_sameEnds : SameEnds seeV .lTemplate s (s.withPlanes d v r) :=
  .of_results h rfl rfl (.requireArg fun _ _ => .requireArg fun _ _ => .requireArg fun _ _ => .requireArg fun _ _ =>
    ⟨_, _, _, rfl, State.Sees.refl _⟩)

theorem lDraw_sameEnds : SameEnds seeV .lDraw s (s.withPlanes d v r) :=
  .of_results h rfl rfl (.requireArg fun _ _ => .requireArg fun _ _ => .requireArg fun _ _ => .requireRange <|
    .require fun _ => ⟨_, _, _, rfl, State.Sees.refl _⟩)

theorem lReserve_sameEnds : SameEnds seeV .lReserve s (s.withPlanes d v r) :=
  .of_results h rfl rfl (.requireArg fun _ _ => ⟨_, _, _, rfl, fun x y hx hy => ⟨h.dplane hx hy, rfl, (h x y hx hy).2.2⟩⟩)

/-- One cell set alike in both states. -/
theorem State.Sees.setCell (x0 y0 : Nat) (b : Bool) :
    State.Sees { s with dplane := Plane.set s.dplane x0 y0 true, vplane := Plane.set s.vplane x0 y0 b } seeV
      (Plane.set d x0 y0 true) (Plane.set v x0 y0 b) r := by
  intro x y hx hy
  obtain ⟨hd, hr, hv⟩ := h x y hx hy
  dsimp only
  rw [Plane.get_set, Plane.get_set, Plane.get_set, Plane.get_set]
  split
  · exact ⟨rfl, hr, fun _ => rfl⟩
  · exact ⟨hd, hr, hv⟩

theorem mSet_sameEnds : SameEnds seeV .mSet s (s.withPlanes d v r) := by
  refine .of_results h rfl rfl (.withCoord fun x hx => .withCoord fun y hy => .requireArg fun _ _ => ?_)
  change Result.Alike seeV _ (.ok ((s.withPlanes d v r).setcell x y (s.argv 2)).cancelStream)
  unfold State.setcell
  split
  · exact ⟨d, v, r, rfl, h⟩
  · exact ⟨_, _, _, rfl, h.setCell x y _⟩

theorem zPut_sameEnds (hs : s.cursorWf) : SameEnds seeV .zPut s (s.withPlanes d v r) := by
  refine .of_results h rfl rfl (.requireArg fun _ _ => .require fun hv => ?_)
  rw [h.sought hs hv]
  refine .require fun _ => ?_
  dsimp only
  rw [State.putbit_eq, State.putbit_eq]
  exact ⟨_, _, _, rfl, h.setCell _ _ _⟩

/-- The cells of a rectangle set alike in both states. -/
theorem State.Sees.setRect (sel : Nat → Nat → Bool) (b : Bool) :
    State.Sees
      { s with
        dplane := Plane.mergeOn s.dplane s.width s.height sel (fun _ _ => true)
        vplane := Plane.mergeOn s.vplane s.width s.height sel (fun _ _ => b) } seeV
      (Plane.mergeOn d s.width s.height sel (fun _ _ => true)) (Plane.mergeOn v s.width s.height sel (fun _ _ => b)) r := by
  intro x y hx hy
  obtain ⟨hd, hr, hv⟩ := h x y hx hy
  dsimp only
  rw [Plane.get_mergeOn, Plane.get_mergeOn, Plane.get_mergeOn, Plane.get_mergeOn]
  split
  · exact ⟨rfl, hr, fun _ => rfl⟩
  · exact ⟨hd, hr, hv⟩

theorem mRect_sameEnds : SameEnds seeV .mRect s (s.withPlanes d v r) := by
  refine .of_results h rfl rfl (.withCoord fun x0 _ => .withCoord fun y0 _ => .requireArg fun _ _ => ?_)
  change Result.Alike seeV _ (.ok ((s.withPlanes d v r).fillRect x0 y0 (min (s.argv 2) (s.width - x0))
    (min (s.argv 3) (s.height - y0)) (s.argv 4)).cancelStream)
  unfold State.fillRect
  split
  · exact ⟨d, v, r, rfl, h⟩
  · exact ⟨_, _, _, rfl, h.setRect _ _⟩

omit h in
/-- Bits chosen alike and given like values: the merged planes agree where the old ones do. -/
theorem Plane.get_mergeOn_congr {p p' : Plane} {w ht : Nat} {sel sel' f f' : Nat → Nat → Bool} {x y : Nat}
    (hp : Plane.get p' x y = Plane.get p x y) (hsel : sel' x y = sel x y) (hf : sel x y = true → f' x y = f x y) :
    Plane.get (Plane.mergeOn p' w ht sel' f') x y = Plane.get (Plane.mergeOn p w ht sel f) x y := by
  rw [Plane.get_mergeOn, Plane.get_mergeOn, hp, hsel]
  split
  · next hin => exact hf hin.2
  · rfl

/-- M_NEGATE reads V of every cell of the window, so V must agree there (41_matrix.md R185). -/
theorem mNegate_sameEnds (hV : seeV = true) : SameEnds seeV .mNegate s (s.withPlanes d v r) := by
  refine .of_results h (q := .ok _) (q' := .ok _) rfl rfl ⟨_, _, _, rfl, fun x y hx hy => ?_⟩
  obtain ⟨hd, hr, hv⟩ := h x y hx hy
  have hv := hv (.inl hV)
  exact ⟨Plane.get_mergeOn_congr hd rfl fun _ => rfl, hr,
    fun _ => Plane.get_mergeOn_congr hv rfl fun _ => congrArg (!·) hv⟩

theorem lMaskApply_sameEnds : SameEnds seeV .lMaskApply s (s.withPlanes d v r) := by
  refine .of_results h rfl rfl (.requireArg fun _ _ => ⟨_, _, _, rfl, fun x y hx hy => ⟨h.dplane hx hy, h.rplane hx hy, ?_⟩⟩)
  obtain ⟨hd, hr, hv⟩ := h x y hx hy
  intro hsee
  refine Plane.get_mergeOn_congr (hv hsee) ?_ fun _ => ?_
  · change (!Plane.get r x y && Plane.get d x y) = _
    rw [hr, hd]
  · exact congrArg (· ^^ maskbit (s.argv 0) x y) (hv hsee)

omit h in
/-- Planes built from functions that agree at a bit agree there. -/
theorem Plane.get_ofWindow_congr {w ht : Nat} {f f' : Nat → Nat → Bool} {x y : Nat} (hf : f' x y = f x y) :
    Plane.get (Plane.ofWindow w ht f') x y = Plane.get (Plane.ofWindow w ht f) x y := by
  rw [Plane.get_ofWindow, Plane.get_ofWindow, hf]

omit h in
/-- A bit of the window of a plane built from a function. -/
theorem Plane.get_ofWindow_of_inside {w ht : Nat} {f : Nat → Nat → Bool} {x y : Nat} (hx : x < w) (hy : y < ht)
    (hw : w ≤ 256) (hh : ht ≤ 256) : Plane.get (Plane.ofWindow w ht f) x y = f x y := by
  rw [Plane.get_ofWindow, decide_eq_true (by omega), Bool.true_and]

theorem mTranspose_sameEnds (hdims : s.height ≤ 256 ∧ s.width ≤ 256) : SameEnds seeV .mTranspose s (s.withPlanes d v r) := by
  refine .of_results h (q := .ok _) (q' := .ok _) rfl rfl ⟨_, _, _, rfl, fun x y hx hy => ?_⟩
  obtain ⟨hd, _, hv⟩ := h y x hy hx
  refine ⟨Plane.get_ofWindow_congr hd, rfl, fun hsee => Plane.get_ofWindow_congr (hv (hsee.imp_right fun hset => ?_))⟩
  exact (Plane.get_ofWindow_of_inside hx hy hdims.1 hdims.2).symm.trans hset

theorem mBorder_sameEnds : SameEnds seeV .mBorder s (s.withPlanes d v r) := by
  refine .of_results h rfl rfl (.require fun hdims => .requireArg fun _ _ => ⟨_, _, _, rfl, fun x y hx hy => ?_⟩)
  obtain ⟨hH, hW⟩ := of_decide_eq_true hdims
  have hold : inBorderCopy (s.argv 0) s.width s.height x y = true → x - s.argv 0 < s.width ∧ y - s.argv 0 < s.height :=
    fun hin => by
      have := of_decide_eq_true hin
      omega
  refine ⟨Plane.get_ofWindow_congr (ite_congr rfl (fun hin => h.dplane (hold hin).1 (hold hin).2) fun _ => rfl), rfl,
    fun hsee => Plane.get_ofWindow_congr (ite_congr rfl (fun hin => ?_) fun _ => rfl)⟩
  refine (h _ _ (hold hin).1 (hold hin).2).2.2 (hsee.imp_right fun hset => ?_)
  have hcopy := (Plane.get_ofWindow_of_inside hx hy hW hH).symm.trans hset
  rwa [if_pos hin] at hcopy

theorem exec_sameEnds {i : Instr} (hs : s.Inv) (hi : seeV = true ∨ i ≠ .mNegate) : SameEnds seeV i s (s.withPlanes d v r) := by
  cases i with
  | mNew => exact mNew_sameEnds h
  | mSet => exact mSet_sameEnds h
  | mGet => exact mGet_sameEnds h
  | mRect => exact mRect_sameEnds h
  | mNegate => exact mNegate_sameEnds h (hi.resolve_right fun hne => hne rfl)
  | mTranspose => exact mTranspose_sameEnds h hs.dims
  | mBorder => exact mBorder_sameEnds h
  | mPopcount => exact mPopcount_sameEnds h
  | mCountPattern => exact mCountPattern_sameEnds h
  | mCountBoxes => exact mCountBoxes_sameEnds h
  | mAssertDrawn => exact mAssertDrawn_sameEnds h
  | mPenalty => exact mPenalty_sameEnds h
  | rRaw => exact rRaw_sameEnds h
  | rGif => exact rGif_sameEnds h
  | lTemplate => exact lTemplate_sameEnds h
  | lReserve => exact lReserve_sameEnds h
  | lFormatRead => exact lFormatRead_sameEnds h
  | lVersionRead => exact lVersionRead_sameEnds h
  | lDraw => exact lDraw_sameEnds h
  | lRead => exact lRead_sameEnds h
  | zNext => exact zNext_sameEnds h hs.cursor
  | zPut => exact zPut_sameEnds h hs.cursor
  | zGet => exact zGet_sameEnds h hs.cursor
  | lMaskApply => exact lMaskApply_sameEnds h
  | nop | sStreamCancel | gfAdd | gfMul | gfInv | gfPow | gfExp | gfLog | pLoad | pStore | pMono | pAdd | pMul | pScale
  | pMulmono | pRem | pEval | pGen | pEuclid | rsEncode | rsSyndrome | rsDecode | bFormat | bVersion | bFormatDecode
  | bVersionDecode | zStart | lMaskBit => exact sameEnds_of_planeBlind rfl h

end

/-- Settles O60: both relations are `State.Alike`, and every command keeps it, command by command. -/
theorem unseenPlaneBits : Obligations.UnseenPlaneBits := by
  intro i s t hs _
  constructor
  · intro hst
    obtain ⟨d, v, r, rfl, hsees⟩ := State.sameInWindow_iff.1 hst
    obtain ⟨s', t', h1, h2, h⟩ := exec_sameEnds hsees (i := i) hs (.inl rfl)
    exact ⟨s', t', h1, h2, State.sameInWindow_iff.2 h⟩
  · intro hi hst
    obtain ⟨d, v, r, rfl, hsees⟩ := State.sameCells_iff.1 hst
    obtain ⟨s', t', h1, h2, h⟩ := exec_sameEnds hsees hs (.inr hi)
    exact ⟨s', t', h1, h2, State.sameCells_iff.2 h⟩

end Sys2Proof.Machine
end

section
namespace Sys2Proof.Machine

/-! ### The window's map (10_state.md R31) -/

section
variable {a : BitVec 14}

theorem regionOf_arg (h1 : 4 ≤ a.toNat) (h2 : a.toNat < 12) : regionOf a = .arg (Fin.ofNat 8 (a.toNat - 4)) := by
  simp (disch := omega) only [regionOf, if_neg, if_pos]

theorem regionOf_res (h1 : 12 ≤ a.toNat) (h2 : a.toNat < 16) : regionOf a = .res (Fin.ofNat 4 (a.toNat - 12)) := by
  simp (disch := omega) only [regionOf, if_neg, if_pos]

theorem regionOf_reserved_low (h1 : 20 ≤ a.toNat) (h2 : a.toNat < 0x400) : regionOf a = .reserved := by
  simp (disch := omega) only [regionOf, if_neg, if_pos]

theorem regionOf_dram (h1 : 0x400 ≤ a.toNat) (h2 : a.toNat < 0x800) : regionOf a = .dram (a.toNat - 0x400) := by
  simp (disch := omega) only [regionOf, if_neg, if_pos]

theorem regionOf_dplane (h1 : 0x800 ≤ a.toNat) (h2 : a.toNat < 0x1000) : regionOf a = .dplane (a.toNat - 0x800) := by
  simp (disch := omega) only [regionOf, if_neg, if_pos]

theorem regionOf_vplane (h1 : 0x1000 ≤ a.toNat) (h2 : a.toNat < 0x1800) : regionOf a = .vplane (a.toNat - 0x1000) := by
  simp (disch := omega) only [regionOf, if_neg, if_pos]

theorem regionOf_rplane (h1 : 0x1800 ≤ a.toNat) (h2 : a.toNat < 0x2000) : regionOf a = .rplane (a.toNat - 0x1800) := by
  simp (disch := omega) only [regionOf, if_neg, if_pos]

theorem regionOf_reserved_high (h : 0x2000 ≤ a.toNat) : regionOf a = .reserved := by
  simp (disch := omega) only [regionOf, if_neg]

/-- SDATA has one offset. -/
theorem eq_sdataOffset_of_regionOf (h : regionOf a = .sdata) : a = sdataOffset := by
  dsimp only [regionOf] at h
  iterate 8 replace h := Region.of_ite h nofun
  by_cases hn : a.toNat = 18
  · exact BitVec.eq_of_toNat_eq hn
  · rw [if_neg hn] at h
    iterate 6 replace h := Region.of_ite h nofun
    cases h

/-- The regions whose words ignore host writes, in flight or idle (10_state.md R43). -/
def Region.readOnly : Region → Bool
  | .id | .res _ | .mdim | .zstate | .sdata | .sremain | .reserved => true
  | .ctrl | .status | .cmd | .arg _ | .dram _ | .dplane _ | .vplane _ | .rplane _ => false

/-- The regions the host must not write in flight (70_reset_and_hazards.md R531). -/
def Region.operand : Region → Bool
  | .arg _ | .dram _ | .dplane _ | .vplane _ | .rplane _ => true
  | .id | .ctrl | .status | .cmd | .res _ | .mdim | .zstate | .sdata | .sremain | .reserved => false

theorem readOnly_regionOf (h : a.toNat = 0 ∨ (12 ≤ a.toNat ∧ a.toNat < 20)) : (regionOf a).readOnly = true := by
  have hval : ∀ n : Nat, n < 2 ^ 14 → a.toNat = n → a = BitVec.ofNat 14 n := fun n hn h =>
    BitVec.eq_of_toNat_eq (by rw [h, BitVec.toNat_ofNat, Nat.mod_eq_of_lt hn])
  by_cases hres : 12 ≤ a.toNat ∧ a.toNat < 16
  · rw [regionOf_res hres.1 hres.2]
    rfl
  · obtain h | h | h | h | h : a.toNat = 0 ∨ a.toNat = 16 ∨ a.toNat = 17 ∨ a.toNat = 18 ∨ a.toNat = 19 := by omega
    all_goals
      rw [hval _ (by decide) h]
      rfl

theorem operand_regionOf (h : (4 ≤ a.toNat ∧ a.toNat < 12) ∨ (0x400 ≤ a.toNat ∧ a.toNat < 0x2000)) :
    (regionOf a).operand = true := by
  obtain ⟨h1, h2⟩ | ⟨h1, h2⟩ := h
  · rw [regionOf_arg h1 h2]
    rfl
  · by_cases h3 : a.toNat < 0x800
    · rw [regionOf_dram h1 h3]
      rfl
    · by_cases h4 : a.toNat < 0x1000
      · rw [regionOf_dplane (by omega) h4]
        rfl
      · by_cases h5 : a.toNat < 0x1800
        · rw [regionOf_vplane (by omega) h5]
          rfl
        · rw [regionOf_rplane (by omega) h2]
          rfl

theorem toNat_offset {n : Nat} (h : n < 2 ^ 14) : (BitVec.ofNat 14 n).toNat = n := by
  rw [BitVec.toNat_ofNat, Nat.mod_eq_of_lt h]

theorem regionOf_arg_offset (i : Fin 8) : regionOf (BitVec.ofNat 14 (4 + i.val)) = .arg i := by
  revert i
  decide

theorem regionOf_res_offset (i : Fin 4) : regionOf (BitVec.ofNat 14 (12 + i.val)) = .res i := by
  revert i
  decide

theorem regionOf_dram_offset {k : Nat} (h : k < 1024) : regionOf (BitVec.ofNat 14 (0x400 + k)) = .dram k := by
  have hn := toNat_offset (n := 0x400 + k) (by omega)
  rw [regionOf_dram (by omega) (by omega), hn, Nat.add_sub_cancel_left]

theorem regionOf_dplane_offset {k : Nat} (h : k < 2048) : regionOf (BitVec.ofNat 14 (0x800 + k)) = .dplane k := by
  have hn := toNat_offset (n := 0x800 + k) (by omega)
  rw [regionOf_dplane (by omega) (by omega), hn, Nat.add_sub_cancel_left]

theorem regionOf_vplane_offset {k : Nat} (h : k < 2048) : regionOf (BitVec.ofNat 14 (0x1000 + k)) = .vplane k := by
  have hn := toNat_offset (n := 0x1000 + k) (by omega)
  rw [regionOf_vplane (by omega) (by omega), hn, Nat.add_sub_cancel_left]

theorem regionOf_rplane_offset {k : Nat} (h : k < 2048) : regionOf (BitVec.ofNat 14 (0x1800 + k)) = .rplane k := by
  have hn := toNat_offset (n := 0x1800 + k) (by omega)
  rw [regionOf_rplane (by omega) (by omega), hn, Nat.add_sub_cancel_left]

end

/-! ### Accesses, idle and in flight -/

section
variable {s : State} (a : BitVec 14)

theorem State.hostRead_idle (hb : s.status.busy = false) : s.hostRead a = s.readIdle a := by simp [State.hostRead, hb]

theorem State.hostRead_busy (hb : s.status.busy = true) : s.hostRead a = s.readBusy a := by simp [State.hostRead, hb]

theorem State.hostWrite_idle (be : BitVec 4) (d : Word) (hb : s.status.busy = false) :
    s.hostWrite a be d = .next (s.writeIdle a be d) := by simp [State.hostWrite, hb]

theorem State.hostWrite_busy (be : BitVec 4) (d : Word) (hb : s.status.busy = true) :
    s.hostWrite a be d = s.writeBusy a be d := by simp [State.hostWrite, hb]

theorem fullStrobe_of_ne {be : BitVec 4} (h : be ≠ 0xF#4) : fullStrobe be = false := by simpa [fullStrobe] using h

/-- A write that CMD, CTRL and STATUS ignore for want of a strobe (20_memory.md R83). -/
theorem State.hostWrite_partial {be : BitVec 4} (d : Word) (hbe : be ≠ 0xF#4)
    (ha : regionOf a = .ctrl ∨ regionOf a = .status ∨ regionOf a = .cmd) : s.hostWrite a be d = .next s := by
  have hf := fullStrobe_of_ne hbe
  cases hb : s.status.busy with
  | true => obtain h | h | h := ha <;> simp [State.hostWrite_busy _ _ _ hb, State.writeBusy, h, hf]
  | false => obtain h | h | h := ha <;> simp [State.hostWrite_idle _ _ _ hb, State.writeIdle, h, hf]

/-- A register that ignores writes ignores them in flight too (10_state.md R43). -/
theorem State.hostWrite_readOnly (be : BitVec 4) (d : Word) (ha : (regionOf a).readOnly = true) :
    s.hostWrite a be d = .next s := by
  cases hb : s.status.busy with
  | true =>
    rw [State.hostWrite_busy a be d hb, State.writeBusy]
    cases hr : regionOf a <;> simp_all [Region.readOnly]
  | false =>
    rw [State.hostWrite_idle a be d hb, State.writeIdle]
    cases hr : regionOf a <;> simp_all [Region.readOnly]

/-- Writes that R531 forbids (log entries 9, 10). -/
theorem State.hostWrite_operand (be : BitVec 4) (d : Word) (hb : s.status.busy = true) (ha : (regionOf a).operand = true) :
    s.hostWrite a be d = if be = 0#4 then .next s else .refused .hostWriteWhileBusy := by
  rw [State.hostWrite_busy a be d hb, State.writeBusy]
  cases hr : regionOf a <;> simp_all [Region.operand]

/-- No read of an idle block but that of SDATA changes anything except the port's read data. -/
theorem State.hostRead_idle_eq (hb : s.status.busy = false) (hne : a ≠ sdataOffset) :
    s.hostRead a = { s with rdata := (s.hostRead a).rdata } := by
  rw [State.hostRead_idle a hb, State.readIdle]
  cases ha : regionOf a with
  | sdata => exact absurd (eq_sdataOffset_of_regionOf ha) hne
  | id | ctrl | status | cmd | arg | res | mdim | zstate | sremain | dram | dplane | vplane | rplane | reserved => rfl

theorem State.hostRead_reserved (ha : regionOf a = .reserved) : s.hostRead a = s.answer 0#32 := by
  cases hb : s.status.busy with
  | true => simp [State.hostRead_busy _ hb, State.readBusy, ha]
  | false => simp [State.hostRead_idle _ hb, State.readIdle, ha]

/-- A read that is the same idle and in flight. -/
theorem State.hostRead_arg {i : Fin 8} (ha : regionOf a = .arg i) : s.hostRead a = s.answer s.arg[i] := by
  cases hb : s.status.busy with
  | true => simp [State.hostRead_busy _ hb, State.readBusy, ha]
  | false => simp [State.hostRead_idle _ hb, State.readIdle, ha]

theorem State.hostRead_id : s.hostRead 0#14 = s.answer Config.idValue := by
  cases hb : s.status.busy with
  | true => exact State.hostRead_busy _ hb
  | false => exact State.hostRead_idle _ hb

theorem State.hostRead_ctrl : s.hostRead 1#14 = s.answer s.ctrlWord := by
  cases hb : s.status.busy with
  | true => exact State.hostRead_busy _ hb
  | false => exact State.hostRead_idle _ hb

theorem State.hostRead_cmd : s.hostRead 3#14 = s.answer s.cmd := by
  cases hb : s.status.busy with
  | true => exact State.hostRead_busy _ hb
  | false => exact State.hostRead_idle _ hb

end

/-- Settles O19: the four branches of a CMD write, and the read that is the same idle and in flight. -/
theorem commandWrite : Obligations.CommandWrite := by
  intro s be w
  refine ⟨fun hb => State.hostWrite_idle _ _ _ hb, fun hb => State.hostWrite_busy _ _ _ hb,
    fun hbe => State.hostWrite_partial _ w hbe (.inr (.inr rfl)), ?_⟩
  rw [State.hostRead_cmd]
  rfl

/-- Settles O22: each clause from the region its offset names. -/
theorem readsAndIgnoredWrites : Obligations.ReadsAndIgnoredWrites := by
  intro s a be d
  refine ⟨fun h => ?_, fun h => State.hostWrite_readOnly a be d (readOnly_regionOf h), State.hostRead_id,
    State.hostRead_idle_eq a, fun hb => ⟨_, State.hostWrite_idle a be d hb⟩,
    fun hb h => State.hostWrite_operand a be d hb (operand_regionOf h)⟩
  have ha : regionOf a = .reserved := h.elim (fun h => regionOf_reserved_low h.1 h.2) regionOf_reserved_high
  exact ⟨State.hostRead_reserved a ha, State.hostWrite_readOnly a be d (by rw [ha]; rfl)⟩

/-! ### The fields of a register word -/

section
variable {n : Nat}

theorem shiftLeft_flag (k : Nat) (b : Bool) : flagAt k b = 2 ^ k * b.toNat := by rw [flagAt, Nat.shiftLeft_eq, Nat.mul_comm]

/-- A bit of a word given as a number. -/
theorem getLsbD_ofNat_of_div {i : Nat} {b : Bool} (hi : i < 32) (h : n / 2 ^ i % 2 = b.toNat) :
    (BitVec.ofNat 32 n).getLsbD i = b := by
  rw [BitVec.getLsbD_ofNat, Nat.testBit_eq_decide_div_mod_eq, h]
  cases b <;> simp [hi]

/-- A field of a word given as a number. -/
theorem toNat_extractLsb'_ofNat (start len : Nat) (hn : n < 2 ^ 32) :
    ((BitVec.ofNat 32 n).extractLsb' start len).toNat = n / 2 ^ start % 2 ^ len := by
  rw [BitVec.extractLsb'_toNat, BitVec.toNat_ofNat, Nat.mod_eq_of_lt hn, Nat.shiftRight_eq_div_pow]

/-- A field of a word that is 0. -/
theorem extractLsb'_ofNat_eq_zero {start len : Nat} (hn : n < 2 ^ 32) (h : n / 2 ^ start % 2 ^ len = 0) :
    (BitVec.ofNat 32 n).extractLsb' start len = 0#len :=
  BitVec.eq_of_toNat_eq (by rw [toNat_extractLsb'_ofNat start len hn, h, BitVec.toNat_zero])

end

/-- The STATUS word as a sum of its fields (10_state.md R34). -/
def Status.wordNat (st : Status) (svalid : Bool) : Nat :=
  st.busy.toNat + 2 * st.done.toNat + 4 * st.err.toNat + 8 * st.ovr.toNat + 16 * svalid.toNat + 256 * st.errcode.toNat +
    65536 * st.errinfo.toNat

theorem Status.word_eq (st : Status) (svalid : Bool) : st.word svalid = BitVec.ofNat 32 (st.wordNat svalid) := by
  simp only [Status.word, Status.wordNat, shiftLeft_flag, Nat.shiftLeft_eq]
  congr 1
  omega

theorem Status.wordNat_lt (st : Status) (svalid : Bool) : st.wordNat svalid < 2 ^ 24 := by
  have h1 := st.errcode.isLt
  have h2 := st.errinfo.isLt
  have hb := fun b : Bool => Bool.toNat_le b
  have := hb st.busy
  have := hb st.done
  have := hb st.err
  have := hb st.ovr
  have := hb svalid
  unfold Status.wordNat
  omega

/-- Where the fields stand in the STATUS word. -/
theorem Status.word_fields (st : Status) (svalid : Bool) :
    let w := st.word svalid
    w.getLsbD 0 = st.busy ∧ w.getLsbD 1 = st.done ∧ w.getLsbD 2 = st.err ∧ w.getLsbD 3 = st.ovr ∧ w.getLsbD 4 = svalid ∧
      w.extractLsb' 5 3 = 0#3 ∧ w.extractLsb' 8 8 = st.errcode ∧ w.extractLsb' 16 8 = st.errinfo ∧ w.extractLsb' 24 8 = 0#8 := by
  have h1 := st.errcode.isLt
  have h2 := st.errinfo.isLt
  have hlt := st.wordNat_lt svalid
  have h3 := Bool.toNat_le st.busy
  have h4 := Bool.toNat_le st.done
  have h5 := Bool.toNat_le st.err
  have h6 := Bool.toNat_le st.ovr
  have h7 := Bool.toNat_le svalid
  intro w
  simp only [w, Status.word_eq]
  have hfield := fun start len => toNat_extractLsb'_ofNat (n := st.wordNat svalid) start len (by omega)
  refine ⟨getLsbD_ofNat_of_div (by decide) ?_, getLsbD_ofNat_of_div (by decide) ?_, getLsbD_ofNat_of_div (by decide) ?_,
    getLsbD_ofNat_of_div (by decide) ?_, getLsbD_ofNat_of_div (by decide) ?_, extractLsb'_ofNat_eq_zero (by omega) ?_,
    BitVec.eq_of_toNat_eq ((hfield 8 8).trans ?_), BitVec.eq_of_toNat_eq ((hfield 16 8).trans ?_),
    extractLsb'_ofNat_eq_zero (by omega) ?_⟩
  all_goals
    unfold Status.wordNat
    omega

/-- Settles O20: the fields of the word, and the three branches of a STATUS write. -/
theorem statusRegister : Obligations.StatusRegister := by
  intro s be d
  refine ⟨fun hb => ?_, ⟨s.writeStatus d, ?_, rfl, rfl, rfl, rfl, rfl, rfl, rfl⟩,
    fun hbe => State.hostWrite_partial _ d hbe (.inr (.inl rfl))⟩
  · rw [State.hostRead_idle _ hb]
    exact s.status.word_fields s.svalid
  · cases hb : s.status.busy with
    | true => exact State.hostWrite_busy _ _ _ hb
    | false => exact State.hostWrite_idle _ _ _ hb

/-! ### A read of SDATA -/

section
variable {s : State}

theorem State.readSdata_empty (h : s.stream.remain = 0#32) : s.readSdata = s.answer 0#32 := by
  simp [State.readSdata, State.svalid, h]

theorem State.readSdata_fresh (h : s.stream.remain ≠ 0#32) (hs : s.stream.stale = false) :
    s.readSdata = State.answer { s with stream := s.stream.advance } (0x100#32 ||| s.outByte.setWidth 32) := by
  simp [State.readSdata, State.svalid, h, hs]

theorem State.readSdata_stale (h : s.stream.remain ≠ 0#32) (hs : s.stream.stale = true) :
    s.readSdata =
      State.answerFree { s with stream := s.stream.advance } (0x100#32 ||| (Config.freeByte s.fresh).setWidth 32) := by
  simp [State.readSdata, State.svalid, h, hs]

theorem State.hostRead_sdata (hb : s.status.busy = false) : s.hostRead sdataOffset = s.readSdata := State.hostRead_idle _ hb

theorem Stream.advance_kind (st : Stream) : st.advance.kind = if st.remain = 1#32 then .none else st.kind := by
  have hiff : st.remain - 1#32 = 0#32 ↔ st.remain = 1#32 := by
    rw [BitVec.sub_eq_iff_eq_add, BitVec.zero_add]
  simp only [Stream.advance, hiff]

end

/-- Settles O25: a stream with bytes left, its bytes specified or not, and an empty one. -/
theorem sdataRead : Obligations.SdataRead := by
  intro s hb
  refine ⟨fun hne => ?_, fun h0 => ?_, fun be d => State.hostWrite_readOnly _ be d rfl⟩
  · rw [State.hostRead_sdata hb]
    cases hs : s.stream.stale with
    | true =>
      rw [State.readSdata_stale hne hs]
      exact ⟨rfl, rfl, s.stream.advance_kind, rfl, rfl, rfl, ⟨_, rfl⟩, nofun⟩
    | false =>
      rw [State.readSdata_fresh hne hs]
      exact ⟨rfl, rfl, s.stream.advance_kind, rfl, rfl, rfl, ⟨_, rfl⟩, fun _ => ⟨rfl, rfl⟩⟩
  · rw [State.hostRead_sdata hb, State.readSdata_empty h0]
    rfl

/-! ### Words read in flight, and MDIM, ZSTATE -/

section
variable {s : State}

theorem State.ctrlWord_eq (s : State) : s.ctrlWord = if s.irqEn then 1#32 else 0#32 := by
  unfold State.ctrlWord
  cases s.irqEn <;> rfl

/-- The STATUS word of a command in flight (70_reset_and_hazards.md R532). -/
theorem Status.word_busy {st : Status} (hst : st.wf) (hb : st.busy = true) {svalid : Bool} {b : Nat} (h32 : b < 32) (h4 : b ≠ 4) :
    (st.word svalid).getLsbD b = (decide (b = 0) || (decide (b = 3) && st.ovr)) := by
  obtain ⟨hdone, herr⟩ := hst.1 hb
  obtain ⟨hcode, hinfo⟩ := hst.2.1 herr
  have hword : st.word svalid = Status.word ⟨true, false, false, st.ovr, 0#8, 0#8⟩ svalid := by
    cases st
    simp only at hb hdone herr hcode hinfo
    subst hb hdone herr hcode hinfo
    rfl
  rw [hword]
  revert b
  cases st.ovr <;> cases svalid <;> decide

theorem State.mdim_fields (hh : s.height ≤ 256) (hw : s.width ≤ 256) :
    (s.mdimWord.extractLsb' 0 9).toNat = s.width ∧ s.mdimWord.extractLsb' 9 7 = 0#7 ∧
      (s.mdimWord.extractLsb' 16 9).toNat = s.height ∧ s.mdimWord.extractLsb' 25 7 = 0#7 := by
  have hn : s.width % 512 + (s.height % 512) <<< 16 = s.width + 65536 * s.height := by
    rw [Nat.shiftLeft_eq]
    omega
  have hfield := fun start len => toNat_extractLsb'_ofNat (n := s.width + 65536 * s.height) start len (by omega)
  rw [State.mdimWord, hn]
  refine ⟨(hfield 0 9).trans ?_, extractLsb'_ofNat_eq_zero (by omega) ?_, (hfield 16 9).trans ?_,
    extractLsb'_ofNat_eq_zero (by omega) ?_⟩
  all_goals omega

/-- The ZSTATE word as a sum of its fields (10_state.md R40). -/
def Cursor.wordNat (c : Cursor) : Nat :=
  c.xo + 256 * c.y + 65536 * (c.dir == .down).toNat + 131072 * c.j.toNat + 262144 * c.done.toNat + 524288 * c.valid.toNat +
    1048576 * c.mask.val

theorem State.zstateWord_eq (hx : s.cursor.xo < 256) (hy : s.cursor.y < 256) :
    s.zstateWord = BitVec.ofNat 32 s.cursor.wordNat := by
  simp only [State.zstateWord, Cursor.wordNat, shiftLeft_flag, Nat.shiftLeft_eq, Nat.mod_eq_of_lt hx, Nat.mod_eq_of_lt hy]
  congr 1
  omega

theorem State.zstate_fields (hx : s.cursor.xo < 256) (hy : s.cursor.y < 256) :
    let z := s.zstateWord
    (z.extractLsb' 0 8).toNat = s.cursor.xo ∧ (z.extractLsb' 8 8).toNat = s.cursor.y ∧
      z.getLsbD 16 = (s.cursor.dir == .down) ∧ z.getLsbD 17 = s.cursor.j ∧ z.getLsbD 18 = s.cursor.done ∧
      z.getLsbD 19 = s.cursor.valid ∧ (z.extractLsb' 20 3).toNat = s.cursor.mask.val ∧ z.extractLsb' 23 9 = 0#9 := by
  have h1 := Bool.toNat_le (s.cursor.dir == .down)
  have h2 := Bool.toNat_le s.cursor.j
  have h3 := Bool.toNat_le s.cursor.done
  have h4 := Bool.toNat_le s.cursor.valid
  have h5 := s.cursor.mask.isLt
  have hlt : s.cursor.wordNat < 2 ^ 32 := by
    unfold Cursor.wordNat
    omega
  have hfield := fun start len => toNat_extractLsb'_ofNat (n := s.cursor.wordNat) start len hlt
  intro z
  simp only [z, State.zstateWord_eq hx hy]
  refine ⟨(hfield 0 8).trans ?_, (hfield 8 8).trans ?_, getLsbD_ofNat_of_div (by decide) ?_,
    getLsbD_ofNat_of_div (by decide) ?_, getLsbD_ofNat_of_div (by decide) ?_, getLsbD_ofNat_of_div (by decide) ?_,
    (hfield 20 3).trans ?_, extractLsb'_ofNat_eq_zero hlt ?_⟩
  all_goals
    unfold Cursor.wordNat
    omega

/-- What a read in flight changes (70_reset_and_hazards.md R532; log entry 8). -/
theorem State.readBusy_frame (a : BitVec 14) :
    ∃ t, s.readBusy a = t ∧ t = { s with rdata := t.rdata, fresh := t.fresh, stream := t.stream } ∧
      (t.stream = s.stream ∨ (a = sdataOffset ∧ s.stream.remain ≠ 0#32 ∧ t.stream = s.stream.advance)) := by
  refine ⟨_, rfl, ?_⟩
  unfold State.readBusy
  cases ha : regionOf a with
  | sdata =>
    dsimp only [State.answerFree]
    refine ⟨rfl, ?_⟩
    split
    · next h => exact .inr ⟨eq_sdataOffset_of_regionOf ha, State.svalid_iff.1 (Bool.and_eq_true_iff.1 h).1, rfl⟩
    · exact .inl rfl
  | id | ctrl | status | cmd | arg | res | mdim | zstate | sremain | dram | dplane | vplane | rplane | reserved =>
    dsimp only [State.answer, State.answerFree]
    exact ⟨rfl, .inl rfl⟩

end

/-- Settles O21: each register's word by its fields, idle and in flight. -/
theorem fieldWords : Obligations.FieldWords := by
  intro s hs
  refine ⟨?_, fun i => ?_, fun hb => ⟨fun i => ?_, ?_, ?_, ?_⟩, fun hb => ⟨fun b h32 h4 => ?_, fun a => ?_⟩⟩
  · rw [State.hostRead_ctrl]
    exact s.ctrlWord_eq
  · rw [State.hostRead_arg _ (regionOf_arg_offset i)]
    rfl
  · rw [State.hostRead_idle _ hb, State.readIdle, regionOf_res_offset]
    rfl
  · rw [State.hostRead_idle _ hb]
    rfl
  · rw [State.hostRead_idle _ hb]
    exact State.mdim_fields hs.dims.1 hs.dims.2
  · rw [State.hostRead_idle _ hb]
    exact State.zstate_fields hs.cursor.1 hs.cursor.2.1
  · rw [State.hostRead_busy _ hb]
    exact Status.word_busy hs.status hb h32 h4
  · rw [State.hostRead_busy _ hb]
    exact State.readBusy_frame a

end Sys2Proof.Machine
end

section
namespace Sys2Proof.Machine

/-! ### Strobed writes and the memory windows (20_memory.md R81, R83) -/

theorem strobeMask_getLsbD : ∀ (be : BitVec 4) (i : Nat), i < 32 → (strobeMask be).getLsbD i = be.getLsbD (i / 8) := by
  decide +kernel

theorem strobed_getLsbD (be : BitVec 4) (old new : Word) {i : Nat} (hi : i < 32) :
    (strobed be old new).getLsbD i = if be.getLsbD (i / 8) then new.getLsbD i else old.getLsbD i := by
  rw [strobed, BitVec.getLsbD_or, BitVec.getLsbD_and, BitVec.getLsbD_and, BitVec.getLsbD_not, strobeMask_getLsbD be i hi]
  cases be.getLsbD (i / 8) <;> simp [hi]

/-- The byte lanes of a strobed word. -/
theorem strobed_lane (be : BitVec 4) (old new : Word) {n : Nat} (hn : n < 4) :
    (strobed be old new).extractLsb' (8 * n) 8 =
      if be.getLsbD n then new.extractLsb' (8 * n) 8 else old.extractLsb' (8 * n) 8 := by
  refine BitVec.eq_of_getLsbD_eq fun j hj => ?_
  have hdiv : (8 * n + j) / 8 = n := by omega
  rw [apply_ite (fun b : BitVec 8 => b.getLsbD j)]
  have hbit := strobed_getLsbD be old new (show 8 * n + j < 32 by omega)
  simp only [BitVec.getLsbD_extractLsb', hj, decide_true, Bool.true_and, hbit, hdiv]

section
variable {s : State}

/-- The DRAM word as a sum of its bytes. -/
theorem State.dramWord_eq (s : State) (k : Nat) :
    s.dramWord k = BitVec.ofNat 32 ((Memory.read s.dram (4 * k)).toNat + (256 * (Memory.read s.dram (4 * k + 1)).toNat +
      (65536 * (Memory.read s.dram (4 * k + 2)).toNat + 16777216 * (Memory.read s.dram (4 * k + 3)).toNat))) := by
  unfold State.dramWord
  simp only [List.range_succ, List.range_zero, List.nil_append, List.cons_append, List.map_cons, List.map_nil, List.sum_cons,
    List.sum_nil, Nat.shiftLeft_eq, Nat.add_zero, Nat.mul_comm _ (2 ^ _), Nat.reduceMul, Nat.reducePow, Nat.one_mul]

/-- Byte lane `n` of word `k` shows `DRAM[4k + n]` (10_state.md R50). -/
theorem State.dramWord_lane (s : State) (k : Nat) {n : Nat} (hn : n < 4) :
    (s.dramWord k).extractLsb' (8 * n) 8 = Memory.read s.dram (4 * k + n) := by
  have h0 := (Memory.read s.dram (4 * k)).isLt
  have h1 := (Memory.read s.dram (4 * k + 1)).isLt
  have h2 := (Memory.read s.dram (4 * k + 2)).isLt
  have h3 := (Memory.read s.dram (4 * k + 3)).isLt
  rw [State.dramWord_eq]
  refine BitVec.eq_of_toNat_eq ((toNat_extractLsb'_ofNat _ _ (by omega)).trans ?_)
  obtain rfl | rfl | rfl | rfl : n = 0 ∨ n = 1 ∨ n = 2 ∨ n = 3 := by omega
  all_goals
    simp only [Nat.mul_zero, Nat.mul_one, Nat.add_zero, Nat.reduceMul, Nat.reducePow]
    omega

/-- The first `n` lanes of a DRAM write: what each byte then holds. -/
theorem State.read_writeLanes (s : State) (k : Nat) (be : BitVec 4) (d : Word) (n x : Nat) :
    Memory.read ((List.range n).foldl (fun t i => if be.getLsbD i then t.memWrite (4 * k + i) [laneByte d i] else t) s).dram x =
      if 4 * k ≤ x ∧ x < 4 * k + n ∧ be.getLsbD (x - 4 * k) = true then laneByte d (x - 4 * k) else Memory.read s.dram x := by
  induction n with
  | zero => rw [if_neg (by omega)]; rfl
  | succ n ih =>
    rw [List.range_succ, List.foldl_append, List.foldl_cons, List.foldl_nil]
    by_cases hx : x = 4 * k + n
    · subst hx
      have hold : ¬ (4 * k ≤ 4 * k + n ∧ 4 * k + n < 4 * k + n ∧ be.getLsbD (4 * k + n - 4 * k) = true) := by omega
      rw [if_neg hold] at ih
      simp only [Nat.add_sub_cancel_left, Nat.le_add_right, true_and, show 4 * k + n < 4 * k + (n + 1) by omega]
      split
      · rw [State.memWrite_dram, Memory.read_write, if_pos (by simp), Nat.sub_self]
        rfl
      · exact ih
    · have hiff : (x < 4 * k + (n + 1)) ↔ x < 4 * k + n := by omega
      simp only [hiff]
      split
      · rw [State.memWrite_dram, Memory.read_write_of_outside _ _ _ _ (by simp; omega), ih]
      · exact ih

theorem State.read_writeDramWord (s : State) (k : Nat) (be : BitVec 4) (d : Word) (x : Nat) :
    Memory.read (s.writeDramWord k be d).dram x =
      if 4 * k ≤ x ∧ x < 4 * k + 4 ∧ be.getLsbD (x - 4 * k) = true then laneByte d (x - 4 * k) else Memory.read s.dram x :=
  s.read_writeLanes k be d 4 x

end

/-- Settles O23: ARG and DRAM, lane by lane. -/
theorem argAndDramWindows : Obligations.ArgAndDramWindows := by
  intro s be d hb
  refine ⟨fun i => ⟨{ s with arg := s.arg.set i (strobed be s.arg[i] d) }, ?_, rfl, fun j hj => ?_, fun n hn => ?_⟩,
    fun k hk => ⟨fun n hn => ?_, s.writeDramWord k be d, ?_, s.writeDramWord_eq k be d, fun n hn => ?_, fun a ha => ?_⟩⟩
  · rw [State.hostWrite_idle _ be d hb, State.writeIdle, regionOf_arg_offset]
  · have hne : i.val ≠ j.val := fun e => hj (Fin.ext e.symm)
    exact Vector.getElem_set_ne i.isLt j.isLt hne
  · have hset : (s.arg.set i (strobed be s.arg[i] d))[i] = strobed be s.arg[i] d := Vector.getElem_set_self i.isLt
    dsimp only
    rw [hset]
    exact strobed_lane be _ d hn
  · rw [State.hostRead_idle _ hb, State.readIdle, regionOf_dram_offset hk]
    exact s.dramWord_lane k hn
  · rw [State.hostWrite_idle _ be d hb, State.writeIdle, regionOf_dram_offset hk]
  · rw [State.read_writeDramWord]
    simp only [Nat.add_sub_cancel_left, Nat.le_add_right, Nat.add_lt_add_iff_left, hn, true_and]
    rfl
  · rw [State.read_writeDramWord, if_neg (by omega)]

/-! ### The plane windows (10_state.md R45) -/

/-- Bit `i` of word `k` of a plane is its bit `32·k + i`. -/
theorem Plane.word_getLsbD (p : Plane) (k : Nat) {i : Nat} (hi : i < 32) :
    (Plane.word p k).getLsbD i = p.getLsbD (32 * k + i) := by
  simp [Plane.word, hi]

/-- The bits of a plane after one word is replaced. -/
theorem Plane.setWord_getLsbD (p : Plane) (k : Nat) (d : Word) {j : Nat} (hj : j < 65536) :
    (Plane.setWord p k d).getLsbD j = if 32 * k ≤ j ∧ j < 32 * k + 32 then d.getLsbD (j - 32 * k) else p.getLsbD j := by
  have hones : (0xFFFFFFFF#32).getLsbD (j - 32 * k) = decide (j - 32 * k < 32) := by
    rw [show (0xFFFFFFFF#32) = BitVec.allOnes 32 from rfl, BitVec.getLsbD_allOnes]
  rw [Plane.setWord, BitVec.getLsbD_or, BitVec.getLsbD_and, BitVec.getLsbD_not, BitVec.getLsbD_shiftLeft,
    BitVec.getLsbD_shiftLeft, BitVec.getLsbD_setWidth, BitVec.getLsbD_setWidth, hones]
  have hk : j - 32 * k < 65536 := by omega
  by_cases h1 : j < 32 * k
  · simp [h1, hj, show ¬ 32 * k ≤ j by omega]
  · by_cases h2 : j - 32 * k < 32
    · simp [h1, h2, hj, hk, show 32 * k ≤ j by omega, show j < 32 * k + 32 by omega]
    · simp [h1, h2, hj, hk, show ¬ j < 32 * k + 32 by omega, BitVec.getLsbD_of_ge d _ (by omega : 32 ≤ j - 32 * k)]

/-- Plane bit `(x, y)` is bit `x mod 32` of word `8·y + x div 32`. -/
theorem Plane.word_get (p : Plane) {x : Nat} (y : Nat) (hx : x < 256) :
    (Plane.word p (8 * y + x / 32)).getLsbD (x % 32) = Plane.get p x y := by
  rw [Plane.word_getLsbD p _ (Nat.mod_lt _ (by decide)), Plane.get, decide_eq_true hx, Bool.true_and]
  congr 1
  omega

/-- A strobed write to the word of `(x, y)`, bit by bit. -/
theorem Plane.get_setWord_strobed (p : Plane) {x y : Nat} (be : BitVec 4) (d : Word) (hx : x < 256) {x' y' : Nat}
    (hx' : x' < 256) (hy' : y' < 256) :
    Plane.get (Plane.setWord p (8 * y + x / 32) (strobed be (Plane.word p (8 * y + x / 32)) d)) x' y' =
      if y' = y ∧ x' / 32 = x / 32 ∧ be.getLsbD (x' % 32 / 8) = true then d.getLsbD (x' % 32) else Plane.get p x' y' := by
  have hlane := strobed_getLsbD be (Plane.word p (8 * y + x / 32)) d (Nat.mod_lt x' (by decide : 0 < 32))
  rw [Plane.get, Plane.setWord_getLsbD p _ _ (by omega), decide_eq_true hx', Bool.true_and]
  by_cases hw : y' = y ∧ x' / 32 = x / 32
  · obtain ⟨rfl, hdiv⟩ := hw
    have hword := Plane.word_get p y' hx'
    rw [← hdiv] at hlane ⊢
    rw [if_pos (by omega), show 256 * y' + x' - 32 * (8 * y' + x' / 32) = x' % 32 by omega, hlane, hword]
    simp only [true_and]
  · rw [if_neg (by omega), if_neg (fun h => hw ⟨h.1, h.2.1⟩), Plane.get, decide_eq_true hx', Bool.true_and]

/-- Settles O24: the word and bit of a plane bit, read and written, for the three planes. -/
theorem planeWindows : Obligations.PlaneWindows := by
  intro s x y be d hb hx hy word written
  have hword : 8 * y + x / 32 < 2048 := by omega
  refine ⟨?_, ?_, ?_, ⟨_, State.hostWrite_idle _ be d hb, ?_⟩, ⟨_, State.hostWrite_idle _ be d hb, ?_⟩,
    ⟨_, State.hostWrite_idle _ be d hb, ?_⟩⟩
  · rw [State.hostRead_idle _ hb, State.readIdle, regionOf_dplane_offset hword]
    exact Plane.word_get _ y hx
  · rw [State.hostRead_idle _ hb, State.readIdle, regionOf_vplane_offset hword]
    exact Plane.word_get _ y hx
  · rw [State.hostRead_idle _ hb, State.readIdle, regionOf_rplane_offset hword]
    exact Plane.word_get _ y hx
  · rw [State.writeIdle, regionOf_dplane_offset hword]
    exact ⟨rfl, fun _ _ => Plane.get_setWord_strobed _ be d hx⟩
  · rw [State.writeIdle, regionOf_vplane_offset hword]
    exact ⟨rfl, fun _ _ => Plane.get_setWord_strobed _ be d hx⟩
  · rw [State.writeIdle, regionOf_rplane_offset hword]
    exact ⟨rfl, fun _ _ => Plane.get_setWord_strobed _ be d hx⟩

end Sys2Proof.Machine
end

section
namespace Sys2Proof.Machine

/-! ### The output stream, byte by byte (42_render.md R233, R235) -/

/-- Byte `pos` of the sequence of the armed stream. -/
def State.streamByte (s : State) (pos : Nat) : Byte :=
  match s.stream.kind with
  | .none => 0#8
  | .raw => s.rawByte s.stream.scale s.stream.bpp pos
  | .gif => s.gifByte s.stream.scale pos

/-- The word the host reads for a stream byte (10_state.md R41). -/
def sdataWord (b : Byte) : Word := 0x100#32 ||| b.setWidth 32

theorem State.outByte_eq (s : State) : s.outByte = s.streamByte s.stream.pos.toNat := by
  unfold State.outByte State.streamByte
  cases s.stream.kind <;> rfl

/-- A read moves the stream, not its sequence. -/
theorem State.streamByte_advance (s : State) (h : s.stream.advance.kind = s.stream.kind) (v : Word) (pos : Nat) :
    (State.answer { s with stream := s.stream.advance } v).streamByte pos = s.streamByte pos := by
  unfold State.streamByte
  rw [State.answer_stream, h]
  cases s.stream.kind <;> rfl

section
variable {s : State}

/-- Reading an armed, specified stream to its end: every byte left, in order. -/
theorem State.sdataReads_remain (n : Nat) (hs : s.Inv) (hb : s.status.busy = false) (hstale : s.stream.stale = false)
    (hn : s.stream.remain.toNat = n) :
    (s.sdataReads n).1 = (List.range n).map (fun i => sdataWord (s.streamByte (s.stream.pos.toNat + i))) ∧
      (s.sdataReads n).2.status.busy = false ∧ (s.sdataReads n).2.stream.kind = .none ∧
      (s.sdataReads n).2.stream.remain = 0#32 := by
  induction n generalizing s with
  | zero =>
    have h0 : s.stream.remain = 0#32 := BitVec.eq_of_toNat_eq hn
    exact ⟨rfl, hb, hs.stream.1.2 h0, h0⟩
  | succ n ih =>
    have hne : s.stream.remain ≠ 0#32 := fun h => by simp [h] at hn
    have hkind : s.stream.kind ≠ .none := fun h => hne (hs.stream.1.1 h)
    obtain ⟨_, _, _, _, hsum, hlt⟩ := hs.stream.2.1 hkind
    have hread := (State.hostRead_sdata hb).trans (State.readSdata_fresh hne hstale)
    have hinv := State.hostRead_inv hs sdataOffset
    have hone : s.stream.remain = 1#32 ↔ n = 0 :=
      ⟨fun h => by simp [h] at hn; omega, fun h => BitVec.eq_of_toNat_eq (by simp [hn, h])⟩
    have hpos : (s.stream.pos + 1#32).toNat = s.stream.pos.toNat + 1 := BitVec.toNat_add_of_lt (by simp; omega)
    have hremain : (s.stream.remain - 1#32).toNat = n := by
      rw [BitVec.toNat_sub_of_le (by simp [BitVec.le_def]; omega), hn]
      rfl
    rw [hread] at hinv
    obtain ⟨h1, h2⟩ := ih hinv hb hstale hremain
    rw [State.sdataReads, hread]
    refine ⟨?_, h2⟩
    rw [List.range_succ_eq_map, List.map_cons, List.map_map]
    refine congr (congrArg _ ?_) (h1.trans (List.map_congr_left fun i hi => ?_))
    · exact congrArg sdataWord s.outByte_eq
    · have hn0 : s.stream.remain ≠ 1#32 := fun h => by simp [hone.1 h] at hi
      have hk : s.stream.advance.kind = s.stream.kind := by rw [Stream.advance_kind, if_neg hn0]
      change sdataWord (State.streamByte _ ((s.stream.pos + 1#32).toNat + i)) =
        sdataWord (s.streamByte (s.stream.pos.toNat + (i + 1)))
      rw [hpos, State.streamByte_advance s hk, Nat.add_right_comm, Nat.add_assoc s.stream.pos.toNat]

end

/-! #### The GIF sequence from its places (R235) -/

/-- A list written out from its places. -/
theorem bytes_eq_map_range {l : List Byte} {f : Nat → Byte} {n : Nat} (hl : l.length = n)
    (h : ∀ i, i < n → l.getD i 0#8 = f i) : l = (List.range n).map f := by
  refine List.ext_getElem (by simp [hl]) fun i h1 h2 => ?_
  rw [List.getElem_map, List.getElem_range, ← h i (hl ▸ h1), List.getD_eq_getElem?_getD, List.getElem?_eq_getElem h1]
  rfl

section
variable (s : State) (scale p : Nat)

/-- One sub-block from its places. -/
theorem State.gifBlock_eq (c : Nat) :
    s.gifBlock scale p c = (List.range (min 126 (p - 126 * c) + 2)).map (s.gifBlockByte scale p c) := by
  rw [List.range_succ_eq_map, List.range_succ_eq_map]
  simp [State.gifBlock, State.gifBlockByte, Function.comp_def]

/-- The first `m` sub-blocks; each but the last of all is 128 bytes long. -/
theorem State.gifBlocks_eq (m : Nat) (hm : 126 * m < p + 126) :
    (List.range m).flatMap (fun c => s.gifBlock scale p c) =
      (List.range (min p (126 * m) + 2 * m)).map fun i => s.gifBlockByte scale p (i / 128) (i % 128) := by
  induction m with
  | zero => simp
  | succ m ih =>
    have hfull : min p (126 * m) + 2 * m = 128 * m := by omega
    have hnext : min p (126 * (m + 1)) + 2 * (m + 1) = 128 * m + (min 126 (p - 126 * m) + 2) := by omega
    rw [List.range_succ, List.flatMap_append, ih (by omega), hfull, hnext, List.range_add, List.map_append, List.map_map,
      List.flatMap_cons, List.flatMap_nil, List.append_nil, State.gifBlock_eq]
    refine congrArg _ (List.map_congr_left fun i hi => ?_)
    have hi := List.mem_range.1 hi
    have hdiv : (128 * m + i) / 128 = m := by omega
    have hmod : (128 * m + i) % 128 = i := by omega
    rw [Function.comp_apply, hdiv, hmod]

end

section
variable (s : State) (scale : Nat)

/-- The pixels of the scaled image (R231). -/
def State.pixels : Nat := s.width * scale * (s.height * scale)

/-- The length of the sub-blocks of the image (R235). -/
def State.gifBody : Nat := s.pixels scale + 2 * ((s.pixels scale + 125) / 126)

theorem State.gifByte_header {i : Nat} (h : i < 13) :
    s.gifByte scale i = (gifHeader (s.width * scale) (s.height * scale)).getD i 0#8 := by
  simp (disch := omega) only [State.gifByte, if_pos]

theorem State.gifByte_colour {i : Nat} (h : i < 384) : s.gifByte scale (13 + i) = if i < 3 then 0xFF#8 else 0x00#8 := by
  simp (disch := omega) only [State.gifByte, if_pos, if_neg]
  exact ite_congr (propext (by omega)) (fun _ => rfl) fun _ => rfl

theorem State.gifByte_descriptor {i : Nat} (h : i < 11) :
    s.gifByte scale (397 + i) = (gifDescriptor (s.width * scale) (s.height * scale)).getD i 0#8 := by
  simp (disch := omega) only [State.gifByte, if_pos, if_neg]
  rw [Nat.add_sub_cancel_left]

theorem State.gifByte_pixels (i : Nat) :
    s.gifByte scale (408 + i) = if i < s.gifBody scale then s.gifBlockByte scale (s.pixels scale) (i / 128) (i % 128)
      else gifTrailer.getD (i - s.gifBody scale) 0#8 := by
  simp (disch := omega) only [State.gifByte, if_neg, Nat.add_sub_cancel_left, Nat.add_lt_add_iff_left]
  rfl

theorem gifColours_getD {i : Nat} (h : i < 384) :
    ([0xFF#8, 0xFF#8, 0xFF#8] ++ List.replicate 381 0x00#8).getD i 0#8 = if i < 3 then 0xFF#8 else 0x00#8 := by
  split
  · obtain rfl | rfl | rfl : i = 0 ∨ i = 1 ∨ i = 2 := by omega
    all_goals rfl
  · have hlen : [0xFF#8, 0xFF#8, 0xFF#8].length = 3 := rfl
    rw [List.getD_eq_getElem?_getD, List.getElem?_append_right (by omega), List.getElem?_replicate_of_lt (by omega)]
    rfl

theorem State.gifBody_eq :
    (List.range ((s.pixels scale + 125) / 126)).flatMap (fun c => s.gifBlock scale (s.pixels scale) c) =
      (List.range (s.gifBody scale)).map fun i => s.gifByte scale (408 + i) := by
  have hmin : min (s.pixels scale) (126 * ((s.pixels scale + 125) / 126)) = s.pixels scale := by omega
  rw [s.gifBlocks_eq scale (s.pixels scale) _ (by omega), hmin]
  refine List.map_congr_left fun i hi => ?_
  have hi : i < s.gifBody scale := List.mem_range.1 hi
  rw [s.gifByte_pixels, if_pos hi]

/-- The sequence R235 writes is the one the stream delivers place by place. -/
theorem State.gifBytes_eq : s.gifBytes scale = (List.range (s.gifLen scale)).map (s.gifByte scale) := by
  have hheader : gifHeader (s.width * scale) (s.height * scale) = (List.range 13).map (s.gifByte scale) :=
    bytes_eq_map_range rfl fun i hi => (s.gifByte_header scale hi).symm
  have hcolours : ([0xFF#8, 0xFF#8, 0xFF#8] ++ List.replicate 381 0x00#8).length = 384 := by
    rw [List.length_append, List.length_replicate]
    rfl
  have hcolour : [0xFF#8, 0xFF#8, 0xFF#8] ++ List.replicate 381 0x00#8 =
      (List.range 384).map fun i => s.gifByte scale (13 + i) :=
    bytes_eq_map_range hcolours fun i hi => (gifColours_getD hi).trans (s.gifByte_colour scale hi).symm
  have hdescriptor : gifDescriptor (s.width * scale) (s.height * scale) =
      (List.range 11).map fun i => s.gifByte scale (397 + i) :=
    bytes_eq_map_range rfl fun i hi => (s.gifByte_descriptor scale hi).symm
  have htrailer : gifTrailer = (List.range 4).map fun i => s.gifByte scale (408 + s.gifBody scale + i) :=
    bytes_eq_map_range rfl fun i _ => by
      rw [Nat.add_assoc, s.gifByte_pixels, if_neg (by omega), Nat.add_sub_cancel_left]
  have hlen : s.gifLen scale = 408 + s.gifBody scale + 4 := by
    unfold State.gifLen gifLength State.gifBody State.pixels
    omega
  have hrange : List.range 408 = List.range 13 ++ (List.range 384).map (13 + ·) ++ (List.range 11).map (397 + ·) := by
    rw [← List.range_add (n := 13) (m := 384), ← List.range_add (n := 397) (m := 11)]
  have hbody := s.gifBody_eq scale
  unfold State.pixels at hbody
  rw [State.gifBytes, hheader, hcolour, hdescriptor, hbody, htrailer, hlen,
    List.range_add (n := 408 + s.gifBody scale) (m := 4), List.range_add (n := 408) (m := s.gifBody scale), hrange]
  simp only [List.map_append, List.map_map]
  rfl

/-- The sequence of the armed stream, place by place. -/
theorem State.outBytes_eq : s.outBytes = (List.range s.streamLength).map s.streamByte := by
  unfold State.outBytes State.streamLength State.streamByte
  cases s.stream.kind with
  | none => rfl
  | raw => rfl
  | gif => exact s.gifBytes_eq s.stream.scale

end

/-- Settles O46: the reads deliver the sequence place by place, and an empty stream reads 0. -/
theorem streamDeliversSequence : Obligations.StreamDeliversSequence := by
  intro s hs hb hkind hpos hstale
  obtain ⟨_, _, _, _, hsum, _⟩ := hs.stream.2.1 hkind
  rw [hpos, BitVec.toNat_zero, Nat.zero_add] at hsum
  obtain ⟨hwords, hbusy, hnone, hempty⟩ := State.sdataReads_remain s.streamLength hs hb hstale hsum
  refine ⟨?_, hnone, hempty, ?_⟩
  · rw [hwords, State.outBytes_eq, List.map_map, hpos]
    simp only [BitVec.toNat_zero, Nat.zero_add]
    rfl
  · rw [State.hostRead_sdata hbusy, State.readSdata_empty hempty]
    rfl

end Sys2Proof.Machine
end

section
/-! PROOFS of the statements on the command word (30_encoding.md R121 to R135). A row's mask leaves the word its opcode and its
register fields (`rowBits`); the command of a word's row has the word cut down to these bits (`encode_of_rowOf`), so a word has no
bit outside them exactly when it is its command's word. -/

namespace Sys2Proof

/-! ### The fields of an assembled word (R121, R135) -/

section
variable {opc rd rs1 rs2 rd2 : Nat}

theorem assemble_toNat (ho : opc < 256) (hd : rd < 8) (h1 : rs1 < 8) (h2 : rs2 < 8) (hd2 : rd2 < 8) :
    (assemble opc rd rs1 rs2 rd2).toNat = opc + rd <<< 8 + rs1 <<< 12 + rs2 <<< 16 + rd2 <<< 20 := by
  rw [assemble, BitVec.toNat_ofNat]
  omega

@[simp] theorem opcOf_assemble (ho : opc < 256) (hd : rd < 8) (h1 : rs1 < 8) (h2 : rs2 < 8) (hd2 : rd2 < 8) :
    opcOf (assemble opc rd rs1 rs2 rd2) = opc := by
  rw [opcOf, assemble_toNat ho hd h1 h2 hd2]
  omega

@[simp] theorem rdOf_assemble (ho : opc < 256) (hd : rd < 8) (h1 : rs1 < 8) (h2 : rs2 < 8) (hd2 : rd2 < 8) :
    rdOf (assemble opc rd rs1 rs2 rd2) = ⟨rd, hd⟩ := by
  simp only [rdOf, regAt, Fin.mk.injEq, assemble_toNat ho hd h1 h2 hd2]
  omega

@[simp] theorem rs1Of_assemble (ho : opc < 256) (hd : rd < 8) (h1 : rs1 < 8) (h2 : rs2 < 8) (hd2 : rd2 < 8) :
    rs1Of (assemble opc rd rs1 rs2 rd2) = ⟨rs1, h1⟩ := by
  simp only [rs1Of, regAt, Fin.mk.injEq, assemble_toNat ho hd h1 h2 hd2]
  omega

@[simp] theorem rs2Of_assemble (ho : opc < 256) (hd : rd < 8) (h1 : rs1 < 8) (h2 : rs2 < 8) (hd2 : rd2 < 8) :
    rs2Of (assemble opc rd rs1 rs2 rd2) = ⟨rs2, h2⟩ := by
  simp only [rs2Of, regAt, Fin.mk.injEq, assemble_toNat ho hd h1 h2 hd2]
  omega

@[simp] theorem rd2Of_assemble (ho : opc < 256) (hd : rd < 8) (h1 : rs1 < 8) (h2 : rs2 < 8) (hd2 : rd2 < 8) :
    rd2Of (assemble opc rd rs1 rs2 rd2) = ⟨rd2, hd2⟩ := by
  simp only [rd2Of, regAt, Fin.mk.injEq, assemble_toNat ho hd h1 h2 hd2]
  omega

end

/-! ### A word cut down to some of its fields -/

/-- A conjunction with a number written in two parts, part by part. -/
theorem and_add_shiftLeft (n a : Nat) {b k : Nat} (hb : b < 2 ^ k) :
    n &&& (b + a <<< k) = (n % 2 ^ k &&& b) + (n >>> k &&& a) <<< k := by
  have hlow : (b + a <<< k) % 2 ^ k = b := by
    rw [Nat.shiftLeft_eq, Nat.add_mul_mod_self_right, Nat.mod_eq_of_lt hb]
  have hhigh : (b + a <<< k) / 2 ^ k = a := by
    rw [Nat.shiftLeft_eq, Nat.add_mul_div_right _ _ (Nat.two_pow_pos k), Nat.div_eq_of_lt hb, Nat.zero_add]
  rw [← Nat.mod_add_div (n &&& (b + a <<< k)) (2 ^ k), Nat.and_mod_two_pow, Nat.and_div_two_pow, hlow, hhigh,
    Nat.shiftRight_eq_div_pow, Nat.shiftLeft_eq, Nat.mul_comm]

theorem and_eq_mod_and (n : Nat) {a k : Nat} (ha : a < 2 ^ k) : n &&& a = n % 2 ^ k &&& a := by
  rw [← Nat.mod_eq_of_lt (Nat.and_lt_two_pow n ha), Nat.and_mod_two_pow, Nat.mod_eq_of_lt ha]

/-- Bits of a word picked by an assembled word, field by field. -/
theorem and_assemble (w : Word) {opc rd rs1 rs2 rd2 : Nat} (ho : opc < 256) (hd : rd < 8) (h1 : rs1 < 8) (h2 : rs2 < 8)
    (hd2 : rd2 < 8) : w &&& assemble opc rd rs1 rs2 rd2 =
      assemble (opcOf w &&& opc) (rdOf w &&& rd) (rs1Of w &&& rs1) (rs2Of w &&& rs2) (rd2Of w &&& rd2) := by
  have lt8 {n : Nat} (x : Nat) (h : n < 8) : x &&& n < 8 := Nat.and_lt_two_pow (n := 3) x h
  have field {n : Nat} (x : Nat) (h : n < 8) : x &&& n = x % 8 &&& n := and_eq_mod_and (k := 3) x h
  have hopc : w.toNat % 2 ^ 20 % 2 ^ 16 % 2 ^ 12 % 2 ^ 8 = w.toNat % 256 := by omega
  have hrd : (w.toNat % 2 ^ 20 % 2 ^ 16 % 2 ^ 12) >>> 8 % 8 = w.toNat >>> 8 % 8 := by omega
  have hrs1 : (w.toNat % 2 ^ 20 % 2 ^ 16) >>> 12 % 8 = w.toNat >>> 12 % 8 := by omega
  have hrs2 : (w.toNat % 2 ^ 20) >>> 16 % 8 = w.toNat >>> 16 % 8 := by omega
  apply BitVec.eq_of_toNat_eq
  rw [BitVec.toNat_and, assemble_toNat ho hd h1 h2 hd2,
    assemble_toNat (Nat.and_lt_two_pow (n := 8) _ ho) (lt8 _ hd) (lt8 _ h1) (lt8 _ h2) (lt8 _ hd2),
    and_add_shiftLeft _ _ (by omega), and_add_shiftLeft _ _ (by omega), and_add_shiftLeft _ _ (by omega),
    and_add_shiftLeft _ _ (by omega), field _ hd, field _ h1, field _ h2, field _ hd2, hopc, hrd, hrs1, hrs2]
  rfl

/-! ### The rows of the map (R133, R134) -/

/-- The bits of a word that a row with this mask leaves it: its opcode and its register fields (R134). -/
def rowBits (mask : Word) : Word := 0xFF#32 ||| ~~~mask

/-- The bits of each of the six masks, as an assembled word. -/
theorem rowBits_mask :
    rowBits maskNone = assemble 0xFF 0 0 0 0 ∧ rowBits maskRd = assemble 0xFF 7 0 0 0 ∧
    rowBits maskRs1 = assemble 0xFF 0 7 0 0 ∧ rowBits maskRdRs1 = assemble 0xFF 7 7 0 0 ∧
    rowBits maskRdRs1Rs2 = assemble 0xFF 7 7 7 0 ∧ rowBits maskRdRd2Rs1Rs2 = assemble 0xFF 7 7 7 7 := by
  decide

section
variable {w w' mask : Word} {i : Instr}

@[simp] theorem opcOf_and_ff (w : Word) : opcOf w &&& 0xFF = opcOf w := by
  rw [Nat.and_two_pow_sub_one_eq_mod _ 8, opcOf, Nat.mod_mod]

@[simp] theorem preg_and_seven (r : PReg) : (r : Nat) &&& 7 = r := by
  rw [Nat.and_two_pow_sub_one_eq_mod _ 3, Nat.mod_eq_of_lt r.isLt]

/-- The command of a word's row has the word's opcode and the register fields its row uses: row by row, the row's bits are
full fields (`rowBits_mask`) and pick the word's fields (`and_assemble`). -/
theorem encode_of_rowOf (h : rowOf w = some (mask, i)) : encode i = w &&& rowBits mask := by
  unfold rowOf at h
  split at h <;> cases h <;> simp [encode, rowBits_mask, and_assemble, *]

/-- Every row's mask holds the whole opcode (R134). -/
theorem mask_and_ff_of_rowOf (h : rowOf w = some (mask, i)) : mask &&& 0xFF#32 = 0xFF#32 := by
  unfold rowOf at h
  split at h <;> cases h <;> rfl

/-- Whether the map has a row for a word depends on its opcode alone (R122). -/
theorem rowOf_isSome_congr (h : opcOf w = opcOf w') : (rowOf w).isSome = (rowOf w').isSome := by
  rw [rowOf, rowOf, h]
  split <;> rfl

/-- A command's word selects its own row, which reads the command's registers back (R135). -/
theorem rowOf_encode (i : Instr) : ∃ mask, rowOf (encode i) = some (mask, i) := by
  cases i <;> simp [encode, rowOf]

theorem opcOf_eq_and (w : Word) : opcOf w = (w &&& 0xFF#32).toNat := by
  rw [BitVec.toNat_and, opcOf]
  exact (Nat.and_two_pow_sub_one_eq_mod _ 8).symm

theorem opcOf_encode_of_rowOf (h : rowOf w = some (mask, i)) : opcOf (encode i) = opcOf w := by
  have habsorb : rowBits mask &&& 0xFF#32 = 0xFF#32 := by grind [rowBits]
  rw [encode_of_rowOf h, opcOf_eq_and, BitVec.and_assoc, habsorb, ← opcOf_eq_and]

/-- The test of R123, on a row's mask: no bit of the word lies outside the row's. -/
theorem masked_eq_opcOf_iff (hm : mask &&& 0xFF#32 = 0xFF#32) :
    (w &&& mask).toNat = opcOf w ↔ w &&& rowBits mask = w := by
  have hbit : ∀ b m f : Bool, (m && f) = f → ((b && m) = (b && f) ↔ (b && (f || !m)) = b) := by decide
  rw [opcOf_eq_and, BitVec.toNat_inj, BitVec.eq_of_getLsbD_eq_iff, BitVec.eq_of_getLsbD_eq_iff]
  refine forall₂_congr fun j hj => ?_
  have hmj : (mask.getLsbD j && (0xFF#32).getLsbD j) = (0xFF#32).getLsbD j := by rw [← BitVec.getLsbD_and, hm]
  simp only [rowBits, BitVec.getLsbD_and, BitVec.getLsbD_or, BitVec.getLsbD_not, hj, decide_true, Bool.true_and]
  exact hbit _ _ _ hmj

theorem masked_eq_opcOf_iff_of_rowOf (h : rowOf w = some (mask, i)) : (w &&& mask).toNat = opcOf w ↔ encode i = w := by
  rw [masked_eq_opcOf_iff (mask_and_ff_of_rowOf h), encode_of_rowOf h]

theorem encode_injective : Function.Injective encode := by
  intro i j h
  obtain ⟨m, hi⟩ := rowOf_encode i
  obtain ⟨m', hj⟩ := rowOf_encode j
  rw [h, hj, Option.some_inj] at hi
  exact congrArg Prod.snd hi.symm

theorem wellFormed_eq_false_iff : i.wellFormed = false ↔ ∃ rd rs1 rs2, i = .pEuclid rd rd rs1 rs2 := by
  constructor
  · intro h
    cases i with
    | pEuclid rd rd2 rs1 rs2 =>
      obtain rfl : rd = rd2 := by simpa [Instr.wellFormed] using h
      exact ⟨rd, rs1, rs2, rfl⟩
    | _ => cases h
  · rintro ⟨rd, rs1, rs2, rfl⟩
    exact bne_self_eq_false rd

/-! ### What decoding gives (R123) -/

theorem decode_of_rowOf (h : rowOf w = some (mask, i)) :
    decode w = if encode i ≠ w then .error .reservedBits
      else if i.wellFormed then .ok i else .error .sameDestination := by
  simp only [decode, h, ne_eq, masked_eq_opcOf_iff_of_rowOf h]

theorem decode_encode (i : Instr) :
    decode (encode i) = if i.wellFormed then .ok i else .error .sameDestination := by
  obtain ⟨mask, h⟩ := rowOf_encode i
  rw [decode_of_rowOf h, if_neg fun hne => hne rfl]

theorem decode_noOpcode (h : ∀ i, opcOf (encode i) ≠ opcOf w) : decode w = .error .noOpcode := by
  cases hrow : rowOf w with
  | none => rw [decode, hrow]
  | some row => exact absurd (opcOf_encode_of_rowOf hrow) (h row.2)

theorem decode_reservedBits (hopc : ∃ i, opcOf (encode i) = opcOf w) (h : ∀ i, encode i ≠ w) :
    decode w = .error .reservedBits := by
  obtain ⟨i, hopc⟩ := hopc
  obtain ⟨mask, hi⟩ := rowOf_encode i
  have hsome := rowOf_isSome_congr hopc
  rw [hi, Option.isSome_some, eq_comm, Option.isSome_iff_exists] at hsome
  obtain ⟨row, hrow⟩ := hsome
  rw [decode_of_rowOf hrow, if_pos (h row.2)]

end

/-- Settles O1: the word's row holds the command again, and no bit of the word is outside it. -/
theorem decodeOfEncode : Obligations.DecodeOfEncode := fun i hi => by
  rw [decode_encode, if_pos hi]

/-- Settles O2: a word that is no command's word is rejected. -/
theorem encodeOfDecode : Obligations.EncodeOfDecode := by
  intro w i h
  by_cases henc : ∃ j, encode j = w
  · obtain ⟨j, rfl⟩ := henc
    rw [decode_encode] at h
    split at h <;> cases h
    exact ⟨rfl, ‹_›⟩
  · by_cases hopc : ∃ j, opcOf (encode j) = opcOf w
    · rw [decode_reservedBits hopc (not_exists.1 henc)] at h
      cases h
    · rw [decode_noOpcode (not_exists.1 hopc)] at h
      cases h

/-- Settles O3: a command's word, another word with a command's opcode, and a word without one. -/
theorem decodeRejections : Obligations.DecodeRejections := by
  intro w
  by_cases henc : ∃ i, encode i = w
  · obtain ⟨i, rfl⟩ := henc
    have hdest : (∃ rd rs1 rs2, encode i = encode (.pEuclid rd rd rs1 rs2)) ↔ i.wellFormed = false := by
      simp only [wellFormed_eq_false_iff, encode_injective.eq_iff]
    rw [decode_encode, hdest]
    cases i.wellFormed <;> simp
  · have hne : ∀ i, encode i ≠ w := not_exists.1 henc
    have hne' : ∀ i, w ≠ encode i := fun i => (hne i).symm
    by_cases hopc : ∃ i, opcOf (encode i) = opcOf w
    · rw [decode_reservedBits hopc hne]
      simp [hne, hne', hopc]
    · rw [decode_noOpcode (not_exists.1 hopc)]
      simp [hne', not_exists.1 hopc]

/-- Settles O4: each word decoded by evaluation. -/
theorem decodeOfPrintedWords : Obligations.DecodeOfPrintedWords := by
  unfold Obligations.DecodeOfPrintedWords
  and_intros <;> rfl

end Sys2Proof
end

section
namespace Sys2Proof.Machine

/-! ### Coordinates (R125) -/

theorem resolve_eq_some_iff {c : Word} {dim x : Nat} :
    resolve c dim = some x ↔ x < dim ∧ (c.toInt = x ∨ c.toInt = (x : Int) - dim) := by
  unfold resolve
  split
  · rw [Option.some_inj]
    split <;> omega
  · simp only [reduceCtorEq, false_iff]
    omega

/-- A word is a small integer's just when it reads as that integer. -/
theorem toInt_eq_iff {c : Word} {z : Int} (hlow : -2 ^ 31 ≤ z) (hhigh : z < 2 ^ 31) :
    c.toInt = z ↔ c = BitVec.ofInt 32 z := by
  rw [← BitVec.toInt_inj, BitVec.toInt_ofInt_eq_self (by decide) hlow hhigh]

/-- Settles O38: a cell is named by two integers, each the value of one word. -/
theorem coordinateResolution : Obligations.CoordinateResolution := by
  intro c dim x hdim
  rw [resolve_eq_some_iff, ← BitVec.ofInt_natCast]
  refine and_congr_right fun hx => ?_
  rw [toInt_eq_iff (by omega) (by omega), toInt_eq_iff (by omega) (by omega)]

/-! ### The end of a command that does not decode (R123) -/

section
variable {s : State}

theorem State.blockTurn_illegal {e : DecodeError} (hb : s.status.busy = true) (h : decode s.cmd = .error e) :
    s.blockTurn = .next (s.errorEnd (illegal e)) := by
  rw [State.blockTurn, if_pos hb, State.runCommand, h]

/-- The block moves when it is its turn, and when no move is left. -/
theorem step_block {rest : List Turn} (h : s.agenda = .block :: rest ∨ (s.agenda = [] ∧ rest = [])) :
    step s = State.blockTurn { s with agenda := rest } := by
  rcases h with h | ⟨h, rfl⟩
  · rw [step, State.move, h]
    rfl
  · have hself : { s with agenda := [] } = s := by rw [← h]
    rw [step, State.move, h, hself]

end

/-- Settles O6: the block's move is the error end of IllegalCommand. -/
theorem illegalCommandEnds : Obligations.IllegalCommandEnds := by
  intro s e rest hb hdec hturn
  have hend := State.blockTurn_illegal (s := { s with agenda := rest }) hb hdec
  rw [step_block hturn, hend]
  cases e <;> rfl

end Sys2Proof.Machine
end

section
/-! PROOFS of the statements on the system commands (40_system.md R160 to R166). What becomes of the stream and of the cursor is
read off the writes a command may make (`Writes`); that a rule raises the first error of its row is said check by check
(`Result.Reports`). -/

namespace Sys2Proof.Machine

/-! ### The stream and the cursor after a command (40_system.md R165, R166) -/

section
variable {i : Instr} {s u : State}

/-- Only the render commands arm the stream (42_render.md R230). -/
theorem effects_of_arms (h : (effects i).arms = true) : i = .rRaw ∨ i = .rGif := by
  cases i <;> simp_all [effects]

/-- Only the cursor commands set or move the cursor (47_mask_zigzag.md R443 to R446). -/
theorem effects_of_cursor (h : (effects i).cursor = true) : i = .zStart ∨ i = .zNext ∨ i = .zPut ∨ i = .zGet := by
  cases i <;> simp_all [effects]

/-- No command that arms the stream cancels it. -/
theorem arms_eq_false (h : (effects i).matrix = true ∨ i = .sStreamCancel) : (effects i).arms = false := by
  rw [Bool.eq_false_iff]
  intro ha
  obtain rfl | rfl := effects_of_arms ha <;> simp [effects] at h

/-- No command that moves the cursor invalidates it. -/
theorem cursor_eq_false (h : (effects i).invalidates = true) : (effects i).cursor = false := by
  rw [Bool.eq_false_iff]
  intro hc
  obtain rfl | rfl | rfl | rfl := effects_of_cursor hc <;> simp [effects] at h

theorem Writes.stream_cancelled (h : Writes i s u) (hi : (effects i).matrix = true ∨ i = .sStreamCancel) :
    u.stream.kind = .none ∧ u.stream.pos = 0#32 ∧ u.stream.remain = 0#32 := by
  have ha := arms_eq_false hi
  induction h with
  | refl hm _ hne => simp [hm, hne] at hi
  | cancel | cells | matrix => exact ⟨rfl, rfl, rfl⟩
  | reserve _ hm hr =>
    obtain hm' | rfl := hi
    · simp [hm] at hm'
    · simp [effects] at hr
  | arm _ _ ha' => simp [ha] at ha'
  | setRes | setPoly | memory | moveCursor => assumption

theorem Writes.stream_kept (h : Writes i s u) (hm : (effects i).matrix = false) (hi : i ≠ .sStreamCancel)
    (ha : (effects i).arms = false) : u.stream = s.stream := by
  induction h with
  | refl | reserve => rfl
  | cancel hi' => exact absurd hi' hi
  | cells _ _ hm' => simp [hm] at hm'
  | matrix _ _ _ _ _ _ hm' => simp [hm] at hm'
  | arm _ _ ha' => simp [ha] at ha'
  | setRes | setPoly | memory | moveCursor => assumption

theorem Writes.cursor_invalidated (h : Writes i s u) (hi : (effects i).invalidates = true) :
    u.cursor = { s.cursor with valid := false } := by
  have hc := cursor_eq_false hi
  induction h with
  | refl _ hr => simp [hi] at hr
  | cancel hi' => simp [hi', effects] at hi
  | cells _ _ _ _ hr => simp [hi] at hr
  | matrix | reserve => rfl
  | moveCursor _ _ hc' => simp [hc] at hc'
  | setRes | setPoly | memory | arm => assumption

theorem Writes.cursor_kept (h : Writes i s u) (hi : (effects i).invalidates = false) (hc : (effects i).cursor = false) :
    u.cursor = s.cursor := by
  induction h with
  | refl | cancel | cells => rfl
  | matrix _ _ _ _ _ _ _ _ hi' => simp [hi] at hi'
  | reserve _ _ _ hi' => simp [hi] at hi'
  | moveCursor _ _ hc' => simp [hc] at hc'
  | setRes | setPoly | memory | arm => assumption

theorem Writes.cursor_valid (h : Writes i s u) (hi : (effects i).invalidates = false) (hz : i ≠ .zStart) :
    u.cursor.valid = s.cursor.valid := by
  induction h with
  | refl | cancel | cells => rfl
  | matrix _ _ _ _ _ _ _ _ hi' => simp [hi] at hi'
  | reserve _ _ _ hi' => simp [hi] at hi'
  | moveCursor _ _ _ hv => exact hv hz
  | setRes | setPoly | memory | arm => assumption

/-- No command writes ERR before it ends (60_exceptions.md R473). -/
theorem Writes.status_err (h : Writes i s u) : u.status.err = s.status.err := by
  obtain ⟨_, _, _, hstatus, _⟩ := h.untouched
  exact congrArg Status.err hstatus

end

/-- Settles O12: a successful end cancels the stream or leaves it; an error end leaves it. -/
theorem streamCancellation : Obligations.StreamCancellation := by
  intro i s t hs h
  obtain ⟨u, hu, rfl⟩ | ⟨e, rfl⟩ := exec_cases h
  · exact ⟨fun herr => by simp [hu.status_err, hs] at herr, fun _ => hu.stream_cancelled, hu.stream_kept⟩
  · exact ⟨fun _ => rfl, nofun, fun _ _ _ => rfl⟩

/-- Settles O13: ZVALID falls with a new matrix or a new RSV, and every cursor command but Z_START keeps it. -/
theorem cursorInvalidation : Obligations.CursorInvalidation := by
  intro i s t hs h
  obtain ⟨u, hu, rfl⟩ | ⟨e, rfl⟩ := exec_cases h
  · exact ⟨fun hi _ => hu.cursor_invalidated hi, fun herr => by simp [hu.status_err, hs] at herr, hu.cursor_kept,
      hu.cursor_valid⟩
  · exact ⟨fun _ => nofun, fun _ => rfl, fun _ _ => rfl, fun _ _ => rfl⟩

/-! ### The step (40_system.md R162) -/

section
variable {s : State}

theorem State.blockTurn_decoded {i : Instr} (hb : s.status.busy = true) (h : decode s.cmd = .ok i) :
    s.blockTurn = exec i s := by
  rw [State.blockTurn, if_pos hb, State.runCommand, h]

theorem State.blockTurn_idle (hb : s.status.busy = false) : s.blockTurn = .next s := by
  simp [State.blockTurn, hb]

/-- With no move left, the block moves. -/
theorem step_of_agenda_nil (h : s.agenda = []) : step s = s.blockTurn := by
  rw [step, State.move, h]

theorem step_host {a : Access} {rest : List Turn} (h : s.agenda = .host a :: rest) :
    step s = State.hostAccess { s with agenda := rest } a := by
  rw [step, State.move, h]
  rfl

end

/-- Settles O5: the step is the block's move or the host's access, as the agenda says. -/
theorem stepRunsDecodedCommand : Obligations.StepRunsDecodedCommand := by
  intro s rest
  refine ⟨fun i hb hdec => ⟨fun h => ?_, fun h => ?_⟩, fun a => step_host, fun hb h => ?_, fun hb h => ?_⟩
  · rw [step_block (.inl h)]
    exact State.blockTurn_decoded (s := { s with agenda := rest }) hb hdec
  · rw [step_of_agenda_nil h, State.blockTurn_decoded hb hdec]
  · rw [step_block (.inl h)]
    exact State.blockTurn_idle (s := { s with agenda := rest }) hb
  · rw [step_of_agenda_nil h, State.blockTurn_idle hb]

/-! ### The first check that fails (60_exceptions.md R474, R475) -/

/-- The rule raises the error the table gives, whenever it gives one. -/
def Result.Reports (o : Option Raise) (r : Result) : Prop := ∀ e, o = some e → r = .error e

section
variable {p : Prop} [Decidable p] {c : Bool} {k : ErrKind} {n : Nat} {o : Option Raise} {f : Unit → Result}

/-- A check of the rule against its row of the table, then the rest of both. -/
theorem Result.Reports.require (hc : c = true ↔ p) (h : p → Result.Reports o (f ())) :
    Result.Reports (needs p k n <|> o) (Machine.require c (raise k n) f) := by
  intro e he
  obtain ⟨hp, rfl⟩ | ⟨hp, he⟩ := needs_orElse_eq_some.1 he
  · exact require_of_false (Bool.eq_false_iff.2 fun hc' => hp (hc.1 hc'))
  · rw [require_of_true (hc.2 hp)]
    exact h hp e he

/-- The last row of the table: what the rule does when the check holds does not matter. -/
theorem Result.Reports.require_last (hc : c = true ↔ p) : Result.Reports (needs p k n) (Machine.require c (raise k n) f) := by
  intro e he
  by_cases hp : p
  · simp [needs_of hp] at he
  · rw [needs_of_not hp, Option.some_inj] at he
    exact he ▸ require_of_false (Bool.eq_false_iff.2 fun hc' => hp (hc.1 hc'))

/-- An operand check against its row of the table, then the rest of both. -/
theorem Result.Reports.requireArg {s : State} {i : Fin 8} {lo hi : Nat} (hp : lo ≤ s.argv i ∧ s.argv i ≤ hi ↔ p)
    (h : p → Result.Reports o (f ())) : Result.Reports (needs p k i <|> o) (s.requireArg i lo hi k f) :=
  .require (by simpa using hp) h

/-- A command reports its errors when its rule raises those of its row. -/
theorem State.reportsErrors_of_reports {s : State} {i : Instr} {r : Result} (h : exec i s = s.finish r)
    (hr : Result.Reports (s.firstError i) r) : s.reportsErrors i := State.reportsErrors_of_finish h hr

end

/-! ### Rendering (42_render.md R232, R234) -/

section
variable {s : State}

theorem execRRaw_arms (h1 : 1 ≤ s.argv 0) (h2 : s.argv 0 ≤ Config.scaleMax) (hbpp : s.argv 1 = 3 ∨ s.argv 1 = 4)
    (hdims : 1 ≤ s.height ∧ 1 ≤ s.width) (hdrawn : s.drawn = true) (hlen : s.rawLength (s.argv 0) (s.argv 1) < 2 ^ 32) :
    execRRaw s = .next (((s.armRaw (s.argv 0) (s.argv 1) (s.rawLength (s.argv 0) (s.argv 1))).setResNat 0
      (s.rawLength (s.argv 0) (s.argv 1))).successEnd) := by
  rw [execRRaw, State.requireArg_pos h1 h2, State.requireArg_pos (by omega) (by omega), require_of_true (decide_eq_true hdims),
    require_of_true hdrawn, require_of_true (decide_eq_true hlen), State.finish_ok]

theorem execRGif_arms (h1 : 1 ≤ s.argv 0) (h2 : s.argv 0 ≤ Config.scaleMax) (hdims : 1 ≤ s.height ∧ 1 ≤ s.width)
    (hdrawn : s.drawn = true) (hside : s.width * s.argv 0 ≤ 65535 ∧ s.height * s.argv 0 ≤ 65535)
    (hlen : s.gifLen (s.argv 0) < 2 ^ 32) :
    execRGif s = .next (((s.armGif (s.argv 0) (s.gifLen (s.argv 0))).setResNat 0 (s.gifLen (s.argv 0))).successEnd) := by
  rw [execRGif, State.requireArg_pos h1 h2, require_of_true (decide_eq_true hdims), require_of_true hdrawn,
    require_of_true (decide_eq_true hside), require_of_true (decide_eq_true hlen), State.finish_ok]

theorem rRaw_reportsErrors : s.reportsErrors .rRaw :=
  have hbpp : 3 ≤ s.argv 1 ∧ s.argv 1 ≤ 4 ↔ s.argv 1 = 3 ∨ s.argv 1 = 4 := by omega
  State.reportsErrors_of_reports rfl <|
    .requireArg .rfl fun _ => .requireArg hbpp fun _ => .require decide_eq_true_iff fun _ => .require .rfl fun _ =>
      .require_last decide_eq_true_iff

theorem rGif_reportsErrors : s.reportsErrors .rGif :=
  State.reportsErrors_of_reports rfl <|
    .requireArg .rfl fun _ => .require decide_eq_true_iff fun _ => .require .rfl fun _ => .require decide_eq_true_iff fun _ =>
      .require_last decide_eq_true_iff

end

/-- Settles O45: no check of NOP and S_STREAM_CANCEL, and the checks of the render commands one after another. -/
theorem systemAndRenderResults : Obligations.SystemAndRenderResults := by
  intro s
  refine ⟨rfl, rfl, fun hh hw hdrawn h1 h2 => ⟨fun hbpp hlen => ?_, fun hw' hh' hlen => ?_⟩, rRaw_reportsErrors,
    rGif_reportsErrors⟩
  · exact execRRaw_arms h1 h2 hbpp ⟨hh, hw⟩ hdrawn hlen
  · exact execRGif_arms h1 h2 ⟨hh, hw⟩ hdrawn ⟨hw', hh'⟩ hlen

end Sys2Proof.Machine
end

section
/-! PROOFS of the statements on the matrix commands (41_matrix.md R180 to R192). Each command's rule is run once on operands that
pass its checks, and what its writes leave in a cell of the window is said once per operation; the statements and the identities
of R192 are read off these. -/

namespace Sys2Proof.Machine

/-! ### Coordinate checks (30_encoding.md R125) -/

section
variable {s : State} {dim : Nat} {g : Nat → Result}

theorem State.withCoord_of_resolve (i : Fin 8) {x : Nat} (h : resolve s.arg[i] dim = some x) : s.withCoord i dim g = g x := by
  rw [State.withCoord, h]

theorem State.withCoord_of_resolve_none (i : Fin 8) (h : resolve s.arg[i] dim = none) :
    s.withCoord i dim g = .error (raise .outOfBounds i) := by
  rw [State.withCoord, h]

/-- The table's condition on a coordinate is that it resolves. -/
theorem inside_iff_resolve {c : Word} : inside c dim ↔ ∃ x, resolve c dim = some x := by
  unfold resolve inside
  split <;> simp [*]

/-- A coordinate check against its row of the table, then the rest of both. -/
theorem Result.Reports.withCoord {i : Fin 8} {o : Option Raise} (h : ∀ x, resolve s.arg[i] dim = some x → Result.Reports o (g x)) :
    Result.Reports (s.coordCheck i dim <|> o) (s.withCoord i dim g) := by
  intro e he
  obtain ⟨hout, rfl⟩ | ⟨hin, he⟩ := needs_orElse_eq_some.1 he
  · refine State.withCoord_of_resolve_none i (Option.eq_none_iff_forall_ne_some.2 fun x hx => hout ?_)
    exact inside_iff_resolve.2 ⟨x, hx⟩
  · obtain ⟨x, hx⟩ := inside_iff_resolve.1 hin
    rw [State.withCoord_of_resolve i hx]
    exact h x hx e he

/-- A coordinate check that is the last row of the table. -/
theorem Result.Reports.withCoord_last {i : Fin 8} : Result.Reports (s.coordCheck i dim) (s.withCoord i dim g) := by
  simpa using Result.Reports.withCoord (o := none) (g := g) fun _ _ => nofun

/-- An operand check that is the last row of the table. -/
theorem Result.Reports.requireArg_last {p : Prop} [Decidable p] {i : Fin 8} {lo hi : Nat} {k : ErrKind} {f : Unit → Result}
    (hp : lo ≤ s.argv i ∧ s.argv i ≤ hi ↔ p) : Result.Reports (needs p k i) (s.requireArg i lo hi k f) :=
  .require_last (by simpa using hp)

end

/-! ### M_GET, M_SET and M_RECT (R181 to R184) -/

section
variable {s : State} {x0 y0 : Nat}

theorem execMGet_of_resolve (hx : resolve s.arg[0] s.width = some x0) (hy : resolve s.arg[1] s.height = some y0) :
    exec .mGet s = .next (s.setResNat 0 (s.cellcode x0 y0)).successEnd := by
  rw [exec, execMGet, State.withCoord_of_resolve 0 hx, State.withCoord_of_resolve 1 hy, State.finish_ok]

theorem execMSet_of_resolve (hx : resolve s.arg[0] s.width = some x0) (hy : resolve s.arg[1] s.height = some y0)
    (hc : s.argv 2 ≤ 2) : exec .mSet s = .next (s.setcell x0 y0 (s.argv 2)).cancelStream.successEnd := by
  rw [exec, execMSet, State.withCoord_of_resolve 0 hx, State.withCoord_of_resolve 1 hy, State.requireArg_pos (Nat.zero_le _) hc,
    State.finish_ok]

theorem execMRect_of_resolve (hx : resolve s.arg[0] s.width = some x0) (hy : resolve s.arg[1] s.height = some y0)
    (hc : s.argv 4 ≤ 2) : exec .mRect s = .next (s.fillRect x0 y0 (min (s.argv 2) (s.width - x0))
      (min (s.argv 3) (s.height - y0)) (s.argv 4)).cancelStream.successEnd := by
  rw [exec, execMRect, State.withCoord_of_resolve 0 hx, State.withCoord_of_resolve 1 hy, State.requireArg_pos (Nat.zero_le _) hc,
    State.finish_ok]

theorem execMSet_of_resolve_x_none (hx : resolve s.arg[0] s.width = none) :
    exec .mSet s = .next (s.errorEnd ⟨.outOfBounds, 0#8⟩) := by
  rw [exec, execMSet, State.withCoord_of_resolve_none 0 hx, State.finish_error]
  rfl

theorem execMSet_of_resolve_y_none (hx : resolve s.arg[0] s.width ≠ none) (hy : resolve s.arg[1] s.height = none) :
    exec .mSet s = .next (s.errorEnd ⟨.outOfBounds, 1#8⟩) := by
  obtain ⟨x, hx⟩ := Option.ne_none_iff_exists'.1 hx
  rw [exec, execMSet, State.withCoord_of_resolve 0 hx, State.withCoord_of_resolve_none 1 hy, State.finish_error]
  rfl

theorem execMSet_of_code (hx : resolve s.arg[0] s.width = some x0) (hy : resolve s.arg[1] s.height = some y0)
    (hc : 2 < s.argv 2) : exec .mSet s = .next (s.errorEnd ⟨.operandRange, 2#8⟩) := by
  rw [exec, execMSet, State.withCoord_of_resolve 0 hx, State.withCoord_of_resolve 1 hy, State.requireArg_neg (.inr hc),
    State.finish_error]
  rfl

theorem mGet_reportsErrors : s.reportsErrors .mGet :=
  State.reportsErrors_of_reports rfl <| .withCoord fun _ _ => .withCoord_last

theorem mSet_reportsErrors : s.reportsErrors .mSet :=
  State.reportsErrors_of_reports rfl <| .withCoord fun _ _ => .withCoord fun _ _ => .requireArg_last (and_iff_right (Nat.zero_le _))

theorem mRect_reportsErrors : s.reportsErrors .mRect :=
  State.reportsErrors_of_reports rfl <| .withCoord fun _ _ => .withCoord fun _ _ => .requireArg_last (and_iff_right (Nat.zero_le _))

/-- A defined cell whose V bit says whether the code is 2 holds that code. -/
theorem State.cellcode_eq_of_get {x y code : Nat} (hc0 : code ≠ 0) (hc : code ≤ 2) (hd : Plane.get s.dplane x y = true)
    (hv : Plane.get s.vplane x y = (code == 2)) : s.cellcode x y = code := by
  obtain rfl | rfl : code = 1 ∨ code = 2 := by omega
  all_goals simp [State.cellcode, hd, hv]

theorem State.cellcode_setcell (hx : x0 < 256) (hy : y0 < 256) {code : Nat} (hc0 : code ≠ 0) (hc : code ≤ 2) :
    (s.setcell x0 y0 code).cellcode x0 y0 = code := by
  obtain ⟨hd, hv⟩ := State.setcell_cell_get s x0 y0 code hc0 x0 y0
  exact State.cellcode_eq_of_get hc0 hc (by simpa [hx, hy] using hd) (by simpa [hx, hy] using hv)

/-- Each bit after a rectangle is filled with a code that is not 0. -/
theorem State.fillRect_get (hh : s.height ≤ 256) (hw : s.width ≤ 256) (w h : Nat) {code : Nat} (hc0 : code ≠ 0) (x y : Nat) :
    Plane.get (s.fillRect x0 y0 w h code).dplane x y =
        (if x < s.width ∧ y < s.height ∧ inRect x0 y0 w h x y then true else Plane.get s.dplane x y) ∧
      Plane.get (s.fillRect x0 y0 w h code).vplane x y =
        (if x < s.width ∧ y < s.height ∧ inRect x0 y0 w h x y then code == 2 else Plane.get s.vplane x y) := by
  have hsel : (x < s.width ∧ y < s.height ∧ x < 256 ∧ y < 256) ∧ inRect x0 y0 w h x y = true ↔
      x < s.width ∧ y < s.height ∧ inRect x0 y0 w h x y = true :=
    ⟨fun ⟨⟨hx, hy, _⟩, hr⟩ => ⟨hx, hy, hr⟩, fun ⟨hx, hy, hr⟩ => ⟨⟨hx, hy, by omega, by omega⟩, hr⟩⟩
  rw [State.fillRect, if_neg hc0]
  exact ⟨(Plane.get_mergeOn ..).trans (by simp only [hsel]),
    (Plane.get_mergeOn ..).trans (by simp only [hsel])⟩

/-- What M_RECT clips away lies outside the window. -/
theorem inRect_clipped {w h W H x y : Nat} (hx : x0 < W) (hy : y0 < H) :
    (x < W ∧ y < H ∧ inRect x0 y0 (min w (W - x0)) (min h (H - y0)) x y = true) ↔
      x0 ≤ x ∧ x < x0 + w ∧ x < W ∧ y0 ≤ y ∧ y < y0 + h ∧ y < H := by
  simp only [inRect, decide_eq_true_eq]
  omega

/-- The cells after `setcell`: its own has the code, unless that is 0, and no other bit changes. -/
theorem State.setcell_cells (hx0 : x0 < 256) (hy0 : y0 < 256) {code : Nat} (hc : code ≤ 2) (x y : Nat) :
    if code ≠ 0 ∧ x = x0 ∧ y = y0 then (s.setcell x0 y0 code).cellcode x y = code
    else Plane.get (s.setcell x0 y0 code).dplane x y = Plane.get s.dplane x y ∧
      Plane.get (s.setcell x0 y0 code).vplane x y = Plane.get s.vplane x y := by
  split
  · rename_i hin
    obtain ⟨hc0, rfl, rfl⟩ := hin
    exact State.cellcode_setcell hx0 hy0 hc0 hc
  · rename_i hout
    by_cases hc0 : code = 0
    · simp [hc0, State.setcell]
    · exact State.setcell_get_of_ne s _ fun e => hout ⟨hc0, e⟩

/-- The cells after a clipped rectangle is filled: those of the rectangle in the window have the code, unless that is 0, and no
other bit changes. -/
theorem State.fillRect_cells (hh : s.height ≤ 256) (hw : s.width ≤ 256) (hx0 : x0 < s.width) (hy0 : y0 < s.height) {w h code : Nat}
    (hc : code ≤ 2) (x y : Nat) :
    let t := s.fillRect x0 y0 (min w (s.width - x0)) (min h (s.height - y0)) code
    if code ≠ 0 ∧ x0 ≤ x ∧ x < x0 + w ∧ x < s.width ∧ y0 ≤ y ∧ y < y0 + h ∧ y < s.height then t.cellcode x y = code
    else Plane.get t.dplane x y = Plane.get s.dplane x y ∧ Plane.get t.vplane x y = Plane.get s.vplane x y := by
  intro t
  by_cases hc0 : code = 0
  · simp [t, hc0, State.fillRect]
  · have hget := State.fillRect_get hh hw (x0 := x0) (y0 := y0) (min w (s.width - x0)) (min h (s.height - y0)) hc0 x y
    simp only [inRect_clipped hx0 hy0] at hget
    obtain ⟨hd, hv⟩ := hget
    split
    · rename_i hin
      exact State.cellcode_eq_of_get hc0 hc (hd.trans (if_pos hin.2)) (hv.trans (if_pos hin.2))
    · rename_i hout
      have hout := fun hin => hout ⟨hc0, hin⟩
      exact ⟨hd.trans (if_neg hout), hv.trans (if_neg hout)⟩

end

/-- Settles O39: a write of a code other than 0 defines the cells it names, and code 0 writes nothing. -/
theorem matrixCellCommands : Obligations.MatrixCellCommands := by
  intro s hh hw
  refine ⟨fun x0 y0 hx hy => ⟨execMGet_of_resolve hx hy, fun hc => ⟨_, execMSet_of_resolve hx hy hc, ?_, ?_⟩,
      execMSet_of_code hx hy, fun hc => ⟨_, execMRect_of_resolve hx hy hc, ?_, ?_⟩⟩,
    execMSet_of_resolve_x_none, execMSet_of_resolve_y_none, mGet_reportsErrors, mSet_reportsErrors, mRect_reportsErrors⟩
  · simp
  · exact State.setcell_cells (Nat.lt_of_lt_of_le (resolve_lt hx) hw) (Nat.lt_of_lt_of_le (resolve_lt hy) hh) hc
  · simp
  · exact State.fillRect_cells hh hw (resolve_lt hx) (resolve_lt hy) hc

/-! ### Whole windows: M_NEGATE, M_ASSERT_DRAWN, M_NEW, M_TRANSPOSE, M_BORDER (R180, R185 to R188) -/

/-- Each bit of the window a plane is built from. -/
theorem Plane.get_ofWindow_of_lt {w h x y : Nat} (hw : w ≤ 256) (hh : h ≤ 256) (f : Nat → Nat → Bool) (hx : x < w) (hy : y < h) :
    Plane.get (Plane.ofWindow w h f) x y = f x y := by
  rw [Plane.get_ofWindow, decide_eq_true ⟨hx, hy, by omega, by omega⟩, Bool.true_and]

section
variable {s : State} (hh : s.height ≤ 256) (hw : s.width ≤ 256)

theorem State.drawn_iff : s.drawn = true ↔ ∀ x y, x < s.width → y < s.height → Plane.get s.dplane x y = true :=
  allCells_iff _ _ _

theorem execMAssertDrawn_of_drawn (hd : s.drawn = true) : exec .mAssertDrawn s = .next s.successEnd := by
  rw [exec, execMAssertDrawn, require_of_true hd, State.finish_ok]

theorem execMAssertDrawn_of_not_drawn (hd : s.drawn = false) :
    exec .mAssertDrawn s = .next (s.errorEnd ⟨.layoutMismatch, 1#8⟩) := by
  rw [exec, execMAssertDrawn, require_of_false hd, State.finish_error]
  rfl

theorem execMNew_of_dims (h0 : 1 ≤ s.argv 0) (h0' : s.argv 0 ≤ Config.matDimMax) (h1 : 1 ≤ s.argv 1)
    (h1' : s.argv 1 ≤ Config.matDimMax) :
    exec .mNew s = .next (s.setMatrix (s.argv 0) (s.argv 1) 0#65536 0#65536 0#65536).cancelStream.invalidateCursor.successEnd := by
  rw [exec, execMNew, State.requireArg_pos h0 h0', State.requireArg_pos h1 h1', State.finish_ok]

theorem execMBorder_of_dims (hh : s.height + 2 * s.argv 0 ≤ 256) (hw : s.width + 2 * s.argv 0 ≤ 256) (h1 : 1 ≤ s.argv 1)
    (h2 : s.argv 1 ≤ 2) :
    exec .mBorder s = .next (s.border (s.argv 0) (s.argv 1 == 2)).cancelStream.invalidateCursor.successEnd := by
  rw [exec, execMBorder, require_of_true (decide_eq_true ⟨hh, hw⟩), State.requireArg_pos h1 h2, State.finish_ok]

theorem mNew_reportsErrors : s.reportsErrors .mNew :=
  State.reportsErrors_of_reports rfl <| .requireArg .rfl fun _ => .requireArg_last .rfl

theorem mBorder_reportsErrors : s.reportsErrors .mBorder :=
  State.reportsErrors_of_reports rfl <| .require decide_eq_true_iff fun _ => .requireArg_last .rfl

include hh hw

theorem State.negate_get {x y : Nat} (hx : x < s.width) (hy : y < s.height) :
    Plane.get s.negate.dplane x y = true ∧ Plane.get s.negate.vplane x y = !Plane.get s.vplane x y := by
  have hin : (x < s.width ∧ y < s.height ∧ x < 256 ∧ y < 256) ∧ true = true := ⟨⟨hx, hy, by omega, by omega⟩, rfl⟩
  exact ⟨(Plane.get_mergeOn ..).trans (if_pos hin), (Plane.get_mergeOn ..).trans (if_pos hin)⟩

theorem State.transpose_get {x y : Nat} (hx : x < s.height) (hy : y < s.width) :
    Plane.get s.transpose.dplane x y = Plane.get s.dplane y x ∧ Plane.get s.transpose.vplane x y = Plane.get s.vplane y x :=
  ⟨Plane.get_ofWindow_of_lt hh hw _ hx hy, Plane.get_ofWindow_of_lt hh hw _ hx hy⟩

end

section
variable {s : State} {n : Nat} (dark : Bool) (hh : s.height + 2 * n ≤ 256) (hw : s.width + 2 * n ≤ 256)
include hh hw

/-- The copy of the old matrix inside the border. -/
theorem State.border_get_copy {x y : Nat} (hx : x < s.width) (hy : y < s.height) :
    Plane.get (s.border n dark).dplane (x + n) (y + n) = Plane.get s.dplane x y ∧
      Plane.get (s.border n dark).vplane (x + n) (y + n) = Plane.get s.vplane x y := by
  have hin : inBorderCopy n s.width s.height (x + n) (y + n) = true := decide_eq_true (by omega)
  exact ⟨(Plane.get_ofWindow_of_lt hw hh _ (by omega) (by omega)).trans (by simp [hin]),
    (Plane.get_ofWindow_of_lt hw hh _ (by omega) (by omega)).trans (by simp [hin])⟩

/-- The frame is of one colour. -/
theorem State.border_get_frame {x y : Nat} (hx : x < s.width + 2 * n) (hy : y < s.height + 2 * n)
    (hout : ¬ (n ≤ x ∧ x < n + s.width ∧ n ≤ y ∧ y < n + s.height)) :
    Plane.get (s.border n dark).dplane x y = true ∧ Plane.get (s.border n dark).vplane x y = dark := by
  have hin : inBorderCopy n s.width s.height x y = false := decide_eq_false hout
  exact ⟨(Plane.get_ofWindow_of_lt hw hh _ hx hy).trans (by simp [hin]),
    (Plane.get_ofWindow_of_lt hw hh _ hx hy).trans (by simp [hin])⟩

end

/-- Settles O40: M_NEGATE has no check, and M_ASSERT_DRAWN one. -/
theorem matrixNegateAndAssert : Obligations.MatrixNegateAndAssert := by
  intro s hh hw
  refine ⟨⟨_, rfl, rfl, fun x y => State.negate_get hh hw⟩, fun hall => ?_, fun ⟨x, y, hx, hy, hd⟩ => ?_⟩
  · exact execMAssertDrawn_of_drawn (State.drawn_iff.2 hall)
  · refine execMAssertDrawn_of_not_drawn (Bool.eq_false_iff.2 fun hdrawn => ?_)
    simp [State.drawn_iff.1 hdrawn x y hx hy] at hd

/-- Settles O41: each bit of a new window is read off the function its planes are built from. -/
theorem matrixNewTransposeBorder : Obligations.MatrixNewTransposeBorder := by
  intro s hh hw
  refine ⟨fun h0 h0' h1 h1' => ⟨_, execMNew_of_dims h0 h0' h1 h1', rfl, rfl, rfl, rfl, rfl, rfl⟩,
    ⟨_, rfl, rfl, rfl, rfl, rfl, fun x y => State.transpose_get hh hw⟩,
    fun hh' hw' h1 h2 => ⟨_, execMBorder_of_dims hh' hw' h1 h2, rfl, rfl, rfl, rfl,
      fun x y => State.border_get_copy _ hh' hw', fun x y hx hy hout => ?_⟩,
    mNew_reportsErrors, mBorder_reportsErrors⟩
  obtain ⟨hd, hv⟩ := State.border_get_frame (s.argv 1 == 2) hh' hw' hx hy hout
  exact State.cellcode_eq_of_get (by omega) h2 hd hv

/-! ### M_POPCOUNT, M_COUNT_PATTERN and M_COUNT_BOXES (R189 to R191) -/

section
variable {s : State} {y : Nat}

theorem execMCountPattern_of_resolve (hy : resolve s.arg[0] s.height = some y) (h1 : 1 ≤ s.argv 1) (h1' : s.argv 1 ≤ 31)
    (h2 : s.argv 2 < 2 ^ s.argv 1) (h4 : s.argv 4 = 1 ∨ (s.argv 4 = 2 ∧ s.argv 3 < 2 ^ s.argv 1)) :
    exec .mCountPattern s =
      .next (s.setResNat 0 (s.countPattern y (s.argv 1) (s.argv 2) (s.argv 3) (s.argv 4))).successEnd := by
  have h3 : (s.argv 4 != 2 || decide (s.argv 3 < 2 ^ s.argv 1)) = true := by
    obtain h4 | ⟨-, h3⟩ := h4
    · simp [h4]
    · simp [h3]
  rw [exec, execMCountPattern, State.withCoord_of_resolve 0 hy, State.requireArg_pos h1 h1',
    State.requireArg_pos (by omega) (by omega), require_of_true (decide_eq_true h2), require_of_true h3, State.finish_ok]

theorem execMCountBoxes_of_resolve (hy : resolve s.arg[0] s.height = some y) (hy' : y + 1 < s.height) :
    exec .mCountBoxes s = .next (s.setResNat 0 ((List.range (s.width - 1)).countP fun x => boxAt s.dark x y)).successEnd := by
  rw [exec, execMCountBoxes, State.withCoord_of_resolve 0 hy, require_of_true (decide_eq_true hy'), State.finish_ok]

theorem mCountPattern_reportsErrors : s.reportsErrors .mCountPattern :=
  have hnp : 1 ≤ s.argv 4 ∧ s.argv 4 ≤ 2 ↔ s.argv 4 = 1 ∨ s.argv 4 = 2 := by omega
  State.reportsErrors_of_reports rfl <|
    .withCoord fun _ _ => .requireArg .rfl fun _ => .requireArg hnp fun _ => .require decide_eq_true_iff fun _ =>
      .require_last (by simp [Decidable.imp_iff_not_or])

/-- A row has one below it unless its coordinate names the last row, from either edge. -/
theorem resolve_succ_lt_iff {c : Word} {dim : Nat} (h : resolve c dim = some y) :
    y + 1 < dim ↔ c.toInt ≠ -1 ∧ c.toInt + 1 ≠ dim := by
  have := resolve_eq_some_iff.1 h
  omega

theorem mCountBoxes_reportsErrors : s.reportsErrors .mCountBoxes :=
  State.reportsErrors_of_reports rfl <|
    .withCoord fun _ hy => .require_last (decide_eq_true_iff.trans (resolve_succ_lt_iff hy))

end

/-- Settles O43: the counts are the model's own, and the checks stand in the table's order. -/
theorem matrixCounts : Obligations.MatrixCounts := by
  intro s
  exact ⟨rfl, fun y => execMCountPattern_of_resolve, fun y => execMCountBoxes_of_resolve, mCountPattern_reportsErrors,
    mCountBoxes_reportsErrors⟩

/-! ### The identities (R192) -/

theorem countCells_succ (w h : Nat) (f : Nat → Nat → Bool) :
    countCells w (h + 1) f = countCells w h f + (List.range w).countP fun x => f x h := by
  simp [countCells, List.range_succ]

/-- A cell has `f` or has it not. -/
theorem countCells_not_add (w h : Nat) (f : Nat → Nat → Bool) :
    countCells w h (fun x y => !f x y) + countCells w h f = h * w := by
  induction h with
  | zero => simp [countCells]
  | succ h ih =>
    have hrow := List.length_eq_countP_add_countP (fun x => f x h) (l := List.range w)
    simp only [List.length_range, Bool.not_eq_true, Bool.decide_eq_false] at hrow
    rw [countCells_succ, countCells_succ, Nat.succ_mul, ← ih]
    omega

section
variable {s t : State}

theorem State.res0_setResNat (n : Nat) : (s.setResNat 0 n).successEnd.res[0] = BitVec.ofNat 32 n := by simp

theorem State.toNat_res0_setResNat {n : Nat} (hn : n < 2 ^ 32) : (s.setResNat 0 n).successEnd.res[0].toNat = n := by
  rw [State.res0_setResNat, BitVec.toNat_ofNat, Nat.mod_eq_of_lt hn]

/-- M_SET writes a cell whose coordinates and code pass, or ends in an error. -/
theorem execMSet_cases (h : exec .mSet s = .next t) :
    (∃ x y, resolve s.arg[0] s.width = some x ∧ resolve s.arg[1] s.height = some y ∧ s.argv 2 ≤ 2 ∧
      t = (s.setcell x y (s.argv 2)).cancelStream.successEnd) ∨ ∃ e, t = s.errorEnd e := by
  obtain ⟨u, hu, rfl⟩ | ⟨e, -, rfl⟩ := State.finish_eq_next h
  · obtain ⟨x, hx, hu⟩ := State.withCoord_eq_ok.1 hu
    obtain ⟨y, hy, hu⟩ := State.withCoord_eq_ok.1 hu
    obtain ⟨⟨-, hc⟩, hu⟩ := State.requireArg_eq_ok.1 hu
    exact .inl ⟨x, y, hx, hy, hc, by rw [Except.ok.inj hu]⟩
  · exact .inr ⟨e, rfl⟩

theorem execMSet_code_zero (h : exec .mSet s = .next t) (hc : s.argv 2 = 0) : t.dplane = s.dplane ∧ t.vplane = s.vplane := by
  obtain ⟨x, y, -, -, -, rfl⟩ | ⟨e, rfl⟩ := execMSet_cases h
  · simp [hc, State.setcell]
  · simp

/-- M_GET returns the code M_SET wrote. -/
theorem execMGet_of_execMSet (hh : s.height ≤ 256) (hw : s.width ≤ 256) (h : exec .mSet s = .next t)
    (herr : t.status.err = false) (hc0 : s.argv 2 ≠ 0) :
    ∃ u, exec .mGet t = .next u ∧ u.status.err = false ∧ u.res[0] = s.arg[2] := by
  obtain ⟨x, y, hx, hy, hc, rfl⟩ | ⟨e, rfl⟩ := execMSet_cases h
  · have hcell := State.cellcode_setcell (s := s) (Nat.lt_of_lt_of_le (resolve_lt hx) hw)
      (Nat.lt_of_lt_of_le (resolve_lt hy) hh) hc0 hc
    refine ⟨_, execMGet_of_resolve (x0 := x) (y0 := y) (by simpa using hx) (by simpa using hy), by simpa using herr, ?_⟩
    calc _ = BitVec.ofNat 32 ((s.setcell x y (s.argv 2)).cellcode x y) := State.res0_setResNat _
      _ = BitVec.ofNat 32 (s.argv 2) := by rw [hcell]
      _ = s.arg[2] := by simp [State.argv]
  · simp at herr

variable (hh : s.height ≤ 256) (hw : s.width ≤ 256)
include hh hw

theorem State.transpose_transpose_get {x y : Nat} (hx : x < s.width) (hy : y < s.height) :
    Plane.get s.transpose.transpose.dplane x y = Plane.get s.dplane x y ∧
      Plane.get s.transpose.transpose.vplane x y = Plane.get s.vplane x y := by
  obtain ⟨hd, hv⟩ := State.transpose_get (s := s.transpose) hw hh hx hy
  obtain ⟨hd', hv'⟩ := State.transpose_get hh hw hy hx
  exact ⟨hd.trans hd', hv.trans hv'⟩

theorem State.negate_negate_get {x y : Nat} (hx : x < s.width) (hy : y < s.height) :
    Plane.get s.negate.negate.dplane x y = true ∧ Plane.get s.negate.negate.vplane x y = Plane.get s.vplane x y := by
  obtain ⟨hd, hv⟩ := State.negate_get (s := s.negate) hh hw hx hy
  obtain ⟨-, hv'⟩ := State.negate_get hh hw hx hy
  exact ⟨hd, by rw [hv, hv', Bool.not_not]⟩

/-- In a drawn matrix the dark cells become light and the light ones dark. -/
theorem State.dark_negate (hd : s.drawn = true) {x y : Nat} (hx : x < s.width) (hy : y < s.height) :
    s.negate.dark x y = !s.dark x y := by
  obtain ⟨hd', hv'⟩ := State.negate_get hh hw hx hy
  rw [State.dark, State.dark, hd', hv', State.drawn_iff.1 hd x y hx hy, Bool.true_and, Bool.true_and]

theorem State.countCells_dark_negate_add (hd : s.drawn = true) :
    countCells s.width s.height s.negate.dark + countCells s.width s.height s.dark = s.height * s.width := by
  rw [countCells_congr fun _ _ => State.dark_negate hh hw hd, countCells_not_add]

end

/-- Settles O42: each identity is the second command's cells in terms of the first's. -/
theorem matrixIdentities : Obligations.MatrixIdentities := by
  intro s hh hw
  refine ⟨⟨_, _, rfl, rfl, rfl, rfl, rfl, fun x y => State.transpose_transpose_get hh hw⟩,
    ⟨_, _, rfl, rfl, rfl, rfl, fun x y => State.negate_negate_get hh hw⟩,
    fun t ht => ⟨execMSet_code_zero ht, fun _ => execMGet_of_execMSet hh hw ht⟩, fun hd => ⟨_, _, _, rfl, rfl, rfl, ?_⟩⟩
  have hsum := State.countCells_dark_negate_add hh hw hd
  have hsize : s.height * s.width ≤ 256 * 256 := Nat.mul_le_mul hh hw
  calc _ = countCells s.width s.height s.negate.dark + countCells s.width s.height s.dark :=
        congr (congrArg HAdd.hAdd (State.toNat_res0_setResNat (by omega))) (State.toNat_res0_setResNat (by omega))
    _ = s.height * s.width := hsum

end Sys2Proof.Machine
end

section
/-! PROOFS of the statements on GF(256) (43_gf.md). The tables are read through once (R260, R261); from then on an element that is
not 0 is a power `gexp i`, and its laws are those of the exponents. That a product distributes over a sum is left: a product by
`gexp i` is `i` products by α, and each of those is additive (`timesAlpha`). -/

namespace Sys2Proof.Machine

/-! ### The tables (R260, R261) -/

/-- The product by α: a shift, reduced modulo 0x11D (R260). -/
def timesAlpha (a : Byte) : Byte := (a <<< 1) ^^^ (if a.getLsbD 7 then 0x1D#8 else 0#8)

theorem gfExpAt_succ : ∀ i, i < 255 → gfExpAt (i + 1) = timesAlpha (gfExpAt i) := by decide +kernel

theorem gfLogAt_gfExpAt : ∀ i, i < 255 → gfLogAt (gfExpAt i) = i := by decide +kernel

theorem gfExpAt_gfLogAt : ∀ a : Byte, a ≠ 0#8 → gfExpAt (gfLogAt a) = a ∧ gfLogAt a < 255 := by decide +kernel

/-- Settles O27: the entries of the two tables, one by one. -/
theorem gfTables : Obligations.GfTables :=
  ⟨rfl, gfExpAt_succ, gfLogAt_gfExpAt, gfExpAt_gfLogAt, rfl, rfl⟩

/-! ### Elements as powers of α (R263 to R266) -/

@[simp] theorem gexp_ne_zero (i : Nat) : gexp i ≠ 0#8 := gfExpAt_ne_zero _ (Nat.mod_lt _ (by decide))

theorem gexp_mod (i : Nat) : gexp (i % 255) = gexp i := by simp [gexp]

theorem glog_gexp (i : Nat) : glog (gexp i) = i % 255 := gfLogAt_gfExpAt _ (Nat.mod_lt _ (by decide))

theorem gexp_glog {a : Byte} (ha : a ≠ 0#8) : gexp (glog a) = a := by
  obtain ⟨hexp, hlt⟩ := gfExpAt_gfLogAt a ha
  rwa [gexp, glog, Nat.mod_eq_of_lt hlt]

theorem eq_zero_or_gexp (a : Byte) : a = 0#8 ∨ ∃ i, a = gexp i :=
  (Decidable.em (a = 0#8)).imp_right fun ha => ⟨glog a, (gexp_glog ha).symm⟩

theorem gexp_eq_one_iff (i : Nat) : gexp i = 1#8 ↔ 255 ∣ i := by
  rw [Nat.dvd_iff_mod_eq_zero]
  constructor
  · intro h
    calc i % 255 = glog (gexp i) := (glog_gexp i).symm
      _ = glog 1#8 := by rw [h]
      _ = 0 := rfl
  · intro h
    rw [← gexp_mod, h]
    rfl

@[simp] theorem zero_gmul (a : Byte) : gmul 0#8 a = 0#8 := by simp [gmul]

@[simp] theorem gmul_zero (a : Byte) : gmul a 0#8 = 0#8 := by simp [gmul]

theorem gmul_gexp (i j : Nat) : gmul (gexp i) (gexp j) = gexp (i + j) := by
  have hlog (k : Nat) : gfLogAt (gexp k) = k % 255 := glog_gexp k
  rw [gmul, if_neg (by simp), hlog, hlog, ← Nat.add_mod, gexp]

theorem gmul_comm (a b : Byte) : gmul a b = gmul b a := by simp only [gmul, or_comm, Nat.add_comm]

theorem gmul_assoc (a b c : Byte) : gmul (gmul a b) c = gmul a (gmul b c) := by
  obtain rfl | ⟨i, rfl⟩ := eq_zero_or_gexp a
  · simp
  obtain rfl | ⟨j, rfl⟩ := eq_zero_or_gexp b
  · simp
  obtain rfl | ⟨k, rfl⟩ := eq_zero_or_gexp c
  · simp
  simp only [gmul_gexp, Nat.add_assoc]

theorem gmul_one (a : Byte) : gmul a 1#8 = a := by
  obtain rfl | ⟨i, rfl⟩ := eq_zero_or_gexp a
  · simp
  · exact gmul_gexp i 0

theorem gmul_ginv {a : Byte} (ha : a ≠ 0#8) : gmul a (ginv a) = 1#8 := by
  have hlt : glog a < 255 := (gfExpAt_gfLogAt a ha).2
  calc gmul a (ginv a) = gmul (gexp (glog a)) (gexp (255 - glog a)) := by rw [gexp_glog ha]; rfl
    _ = gexp 255 := by rw [gmul_gexp, Nat.add_sub_cancel' (Nat.le_of_lt hlt)]
    _ = 1#8 := rfl

theorem gpow_of_ne_zero {a : Byte} (ha : a ≠ 0#8) (e : Nat) : gpow a e = gexp (glog a * e) := if_neg ha

theorem gpow_add (a : Byte) (e f : Nat) : gpow a (e + f) = gmul (gpow a e) (gpow a f) := by
  by_cases ha : a = 0#8
  · subst ha
    cases e with
    | zero => rw [Nat.zero_add, show gpow 0#8 0 = 1#8 from rfl, gmul_comm, gmul_one]
    | succ e => simp [gpow]
  · simp only [gpow_of_ne_zero ha, gmul_gexp, Nat.mul_add]

/-! ### A product as products by α, and the distributive law -/

theorem timesAlpha_gadd (a b : Byte) : timesAlpha (gadd a b) = gadd (timesAlpha a) (timesAlpha b) := by
  have hreduce (p q : Bool) :
      (if (p ^^ q) then 0x1D#8 else 0#8) = (if p then 0x1D#8 else 0#8) ^^^ (if q then 0x1D#8 else 0#8) := by
    cases p <;> cases q <;> rfl
  simp only [timesAlpha, gadd, BitVec.shiftLeft_xor_distrib, BitVec.getLsbD_xor, hreduce]
  ac_rfl

theorem timesAlpha_gexp (i : Nat) : timesAlpha (gexp i) = gexp (i + 1) := by
  have hlt : i % 255 < 255 := Nat.mod_lt _ (by decide)
  rw [gexp, ← gfExpAt_succ _ hlt, gexp, Nat.add_mod]
  obtain h | h : i % 255 = 254 ∨ i % 255 + 1 < 255 := by omega
  · rw [h]
    rfl
  · rw [Nat.mod_eq_of_lt h]

theorem gmul_gexp_succ (i : Nat) (b : Byte) : gmul (gexp (i + 1)) b = timesAlpha (gmul (gexp i) b) := by
  obtain rfl | ⟨j, rfl⟩ := eq_zero_or_gexp b
  · rw [gmul_zero, gmul_zero]
    rfl
  · rw [gmul_gexp, gmul_gexp, timesAlpha_gexp, Nat.add_right_comm]

theorem gmul_gexp_gadd (i : Nat) (b c : Byte) : gmul (gexp i) (gadd b c) = gadd (gmul (gexp i) b) (gmul (gexp i) c) := by
  induction i with
  | zero =>
    have hone (a : Byte) : gmul (gexp 0) a = a := (gmul_comm _ _).trans (gmul_one a)
    rw [hone, hone, hone]
  | succ i ih => simp only [gmul_gexp_succ, ih, timesAlpha_gadd]

theorem gmul_gadd (a b c : Byte) : gmul a (gadd b c) = gadd (gmul a b) (gmul a c) := by
  obtain rfl | ⟨i, rfl⟩ := eq_zero_or_gexp a
  · simp only [zero_gmul, gadd, BitVec.xor_self]
  · exact gmul_gexp_gadd i b c

/-- Settles O28: sums of exponents, and products by α for the distributive law. -/
theorem gfFieldLaws : Obligations.GfFieldLaws :=
  ⟨gmul_comm, gmul_assoc, gmul_gadd, gmul_one, fun _ => gmul_ginv, fun _ => gexp_glog, glog_gexp, gpow_add, gexp_eq_one_iff⟩

/-! ### The GF commands (R267 to R272) -/

section
variable {s : State}

theorem ofNat_gadd_argByte (h0 : s.argv 0 ≤ 255) (h1 : s.argv 1 ≤ 255) :
    BitVec.ofNat 32 (gadd (s.argByte 0) (s.argByte 1)).toNat = s.arg[0] ^^^ s.arg[1] := by
  have hmod {n : Nat} (hn : n ≤ 255) : n % 2 ^ 8 = n := Nat.mod_eq_of_lt (by omega)
  rw [gadd, BitVec.toNat_xor, State.argByte, State.argByte, BitVec.toNat_ofNat, BitVec.toNat_ofNat, hmod h0, hmod h1,
    BitVec.ofNat_xor, State.argv, State.argv, BitVec.ofNat_toNat, BitVec.ofNat_toNat]
  simp

theorem execGfAdd_of_bytes (h0 : s.argv 0 ≤ 255) (h1 : s.argv 1 ≤ 255) :
    exec .gfAdd s = .next (s.setRes 0 (s.arg[0] ^^^ s.arg[1])).successEnd := by
  rw [exec, execGfAdd, State.requireByte_pos h0, State.requireByte_pos h1, State.finish_ok, State.setResNat,
    ofNat_gadd_argByte h0 h1]

theorem execGfMul_of_bytes (h0 : s.argv 0 ≤ 255) (h1 : s.argv 1 ≤ 255) :
    exec .gfMul s = .next (s.setResNat 0 (gmul (s.argByte 0) (s.argByte 1)).toNat).successEnd := by
  rw [exec, execGfMul, State.requireByte_pos h0, State.requireByte_pos h1, State.finish_ok]

theorem execGfInv_of_ne_zero (h0 : s.argv 0 ≤ 255) (hz : s.argv 0 ≠ 0) :
    exec .gfInv s = .next (s.setResNat 0 (ginv (s.argByte 0)).toNat).successEnd := by
  rw [exec, execGfInv, State.requireByte_pos h0, require_of_true (bne_iff_ne.2 hz), State.finish_ok]

theorem execGfLog_of_ne_zero (h0 : s.argv 0 ≤ 255) (hz : s.argv 0 ≠ 0) :
    exec .gfLog s = .next (s.setResNat 0 (glog (s.argByte 0))).successEnd := by
  rw [exec, execGfLog, State.requireByte_pos h0, require_of_true (bne_iff_ne.2 hz), State.finish_ok]

theorem execGfPow_of_byte (h0 : s.argv 0 ≤ 255) :
    exec .gfPow s = .next (s.setResNat 0 (gpow (s.argByte 0) (s.argv 1)).toNat).successEnd := by
  rw [exec, execGfPow, State.requireByte_pos h0, State.finish_ok]

/-- A rule whose first failing check is that of the byte operand `i`. -/
theorem State.finish_requireByte_neg {i : Fin 8} {f : Unit → Result} (h : 255 < s.argv i) :
    s.finish (s.requireByte i f) = .next (s.errorEnd (raise .operandRange i)) := by
  rw [State.requireByte_neg h, State.finish_error]

/-- The checks of GF_INV and GF_LOG on ARG[0] = 0. -/
theorem State.finish_domainError {f : Unit → Result} (hz : s.argv 0 = 0) :
    s.finish (s.requireByte 0 fun _ => require (s.argv 0 != 0) (raise .domainError 0) f) =
      .next (s.errorEnd (raise .domainError 0)) := by
  rw [State.requireByte_pos (hz ▸ Nat.zero_le _), require_of_false (bne_eq_false_iff_eq.2 hz), State.finish_error]

theorem gf_operandRange_zero {i : Instr} (hi : i = .gfAdd ∨ i = .gfMul ∨ i = .gfInv ∨ i = .gfPow ∨ i = .gfLog)
    (h0 : 255 < s.argv 0) : exec i s = .next (s.errorEnd (raise .operandRange 0)) := by
  obtain rfl | rfl | rfl | rfl | rfl := hi <;> exact State.finish_requireByte_neg h0

theorem gf_operandRange_one {i : Instr} (hi : i = .gfAdd ∨ i = .gfMul) (h0 : s.argv 0 ≤ 255) (h1 : 255 < s.argv 1) :
    exec i s = .next (s.errorEnd (raise .operandRange 1)) := by
  obtain rfl | rfl := hi <;> exact (congrArg s.finish (State.requireByte_pos h0)).trans (State.finish_requireByte_neg h1)

theorem gf_domainError {i : Instr} (hi : i = .gfInv ∨ i = .gfLog) (hz : s.argv 0 = 0) :
    exec i s = .next (s.errorEnd (raise .domainError 0)) := by
  obtain rfl | rfl := hi <;> exact State.finish_domainError hz

end

/-- Settles O26: each command's checks one after another, where they hold and where the first fails. -/
theorem gfResults : Obligations.GfResults := fun _ =>
  ⟨fun h0 h1 => ⟨execGfAdd_of_bytes h0 h1, execGfMul_of_bytes h0 h1⟩,
    fun hpos h0 => ⟨execGfInv_of_ne_zero h0 (Nat.ne_of_gt hpos), execGfLog_of_ne_zero h0 (Nat.ne_of_gt hpos)⟩,
    execGfPow_of_byte, rfl, fun h0 _ hi => gf_operandRange_zero hi h0, fun h0 h1 _ hi => gf_operandRange_one hi h0 h1,
    fun hz _ hi => gf_domainError hi hz⟩

end Sys2Proof.Machine
end

section
/-! PROOFS: facts of polynomials over GF(256) (00_scope.md R14, 44_poly.md). The coefficients of each operation are said first, on
the byte lists. A product's coefficients are the convolution of its factors' (`conv`), which is associative and distributes over
`gadd`; a value is a sum over the coefficients (`evalSum`). -/

namespace Sys2Proof.Machine

/-! ### Coefficients (00_scope.md R14, 44_poly.md R292 to R296) -/

section
variable {a b p : Poly}

@[simp] theorem polyCoef_nil (d : Nat) : polyCoef [] d = 0#8 := by simp [polyCoef]

theorem polyCoef_cons (c : Byte) (p : Poly) (d : Nat) : polyCoef (c :: p) d = if d = p.length then c else polyCoef p d := by
  simp only [polyCoef, List.reverse_cons, List.getD_eq_getElem?_getD, List.getElem?_append, List.length_reverse,
    List.getElem?_singleton]
  obtain hd | rfl | hd := Nat.lt_trichotomy d p.length
  · rw [if_pos hd, if_neg (Nat.ne_of_lt hd)]
  · simp
  · rw [if_neg (by omega), if_neg (by omega), if_neg (by omega), List.getElem?_eq_none (by simpa using Nat.le_of_lt hd)]

theorem polyCoef_eq_zero {d : Nat} (h : p.length ≤ d) : polyCoef p d = 0#8 := by
  simp [polyCoef, List.getElem?_eq_none (l := p.reverse) (by simpa using h)]

/-- The coefficient of the highest degree is the leading byte. -/
theorem polyCoef_length_sub_one (p : Poly) : polyCoef p (p.length - 1) = polyLead p := by
  cases p with
  | nil => rfl
  | cons c p => simp [polyCoef_cons, polyLead]

@[simp] theorem polyCoef_polyNorm (p : Poly) (d : Nat) : polyCoef (polyNorm p) d = polyCoef p d := by
  fun_induction polyNorm p with
  | case1 => rfl
  | case2 => rfl
  | case3 e l ih =>
    rw [ih, polyCoef_cons 0#8]
    split
    · exact polyCoef_eq_zero (by omega)
    · rfl
  | case4 => rfl

theorem polyCoef_append (a b : Poly) (d : Nat) :
    polyCoef (a ++ b) d = if d < b.length then polyCoef b d else polyCoef a (d - b.length) := by
  simp only [polyCoef, List.reverse_append, List.getD_eq_getElem?_getD, List.getElem?_append, List.length_reverse]
  split <;> rfl

@[simp] theorem polyCoef_zeroBytes (n d : Nat) : polyCoef (zeroBytes n) d = 0#8 := by
  rw [polyCoef, zeroBytes, List.reverse_replicate, List.getD_eq_getElem?_getD, List.getElem?_replicate]
  split <;> rfl

@[simp] theorem polyCoef_zeroBytes_append (n : Nat) (p : Poly) (d : Nat) : polyCoef (zeroBytes n ++ p) d = polyCoef p d := by
  rw [polyCoef_append]
  split
  · rfl
  · rw [polyCoef_zeroBytes, polyCoef_eq_zero (by omega)]

theorem polyCoef_map {f : Byte → Byte} (hf : f 0#8 = 0#8) (p : Poly) (d : Nat) : polyCoef (p.map f) d = f (polyCoef p d) := by
  induction p with
  | nil => simp [hf]
  | cons c p ih => simp only [List.map_cons, polyCoef_cons, List.length_map, ih, apply_ite f]

theorem polyCoef_zipWith_gadd (h : a.length = b.length) (d : Nat) :
    polyCoef (List.zipWith gadd a b) d = gadd (polyCoef a d) (polyCoef b d) := by
  induction a generalizing b with
  | nil =>
    obtain rfl := List.length_eq_zero_iff.1 h.symm
    simp [gadd]
  | cons c a ih =>
    obtain ⟨e, b, rfl⟩ := List.exists_cons_of_length_eq_add_one h.symm
    have hlen : a.length = b.length := by simpa using h
    simp only [List.zipWith_cons_cons, polyCoef_cons, List.length_zipWith, ← hlen, Nat.min_self, ih hlen]
    split <;> rfl

@[simp] theorem polyCoef_padd (a b : Poly) (d : Nat) : polyCoef (padd a b) d = gadd (polyCoef a d) (polyCoef b d) := by
  have hlen : (zeroBytes (max a.length b.length - a.length) ++ a).length =
      (zeroBytes (max a.length b.length - b.length) ++ b).length := by
    simp only [zeroBytes, List.length_append, List.length_replicate]
    omega
  rw [padd, polyCoef_polyNorm, polyCoef_zipWith_gadd hlen, polyCoef_zeroBytes_append, polyCoef_zeroBytes_append]

@[simp] theorem polyCoef_zero (d : Nat) : polyCoef [0#8] d = 0#8 := polyCoef_zeroBytes 1 d

@[simp] theorem polyCoef_pscale (a : Poly) (c : Byte) (d : Nat) : polyCoef (pscale a c) d = gmul (polyCoef a d) c := by
  unfold pscale
  split
  · next hc => rw [hc, gmul_zero, polyCoef_zero]
  · rw [polyCoef_polyNorm, polyCoef_map (zero_gmul c)]

theorem polyCoef_pmono (n : Nat) (c : Byte) (d : Nat) : polyCoef (pmono n c) d = if d = n then c else 0#8 := by
  unfold pmono
  split
  · next hc => rw [hc, polyCoef_zero, ite_self]
  · rw [polyCoef_cons, polyCoef_zeroBytes, zeroBytes, List.length_replicate]

theorem polyCoef_polyShift (a : Poly) (n : Nat) (c : Byte) (d : Nat) :
    polyCoef (polyShift a n c) d = if n ≤ d then gmul (polyCoef a (d - n)) c else 0#8 := by
  rw [polyShift, polyCoef_append, polyCoef_zeroBytes, polyCoef_map (zero_gmul c), zeroBytes, List.length_replicate]
  by_cases h : n ≤ d
  · rw [if_neg (Nat.not_lt.2 h), if_pos h]
  · rw [if_pos (Nat.lt_of_not_le h), if_neg h]

/-- A product adds, for each coefficient of the first factor, the second shifted by that coefficient's degree (R294). -/
theorem polyCoef_polyRawMul_cons (c : Byte) (a : Poly) {b : Poly} (hb : 1 ≤ b.length) (d : Nat) :
    polyCoef (polyRawMul (c :: a) b) d = gadd (polyCoef (polyShift b a.length c) d) (polyCoef (polyRawMul a b) d) := by
  have hshift : polyShift b a.length c = b.map (gmul c) ++ zeroBytes a.length := by simp only [polyShift, gmul_comm _ c]
  have hlen : (polyShift b a.length c).length = (0#8 :: polyRawMul a b).length := by
    rw [polyShift_length, List.length_cons, polyRawMul_length a b hb]
    omega
  rw [polyRawMul, ← hshift, polyCoef_zipWith_gadd hlen]
  exact congrArg _ (polyCoef_zeroBytes_append 1 _ d)

theorem polyLead_pgen (k : Nat) : polyLead (pgen k) = 1#8 := by
  induction k with
  | zero => rfl
  | succ k ih =>
    obtain ⟨c, p, hp⟩ := List.exists_cons_of_length_pos (l := pgen k) (by rw [pgen_length]; omega)
    rw [hp] at ih
    rw [pgen, hp, polyLead_polyRawMul, gmul_one]
    exact ih

end

/-! ### Sums and products of elements (43_gf.md R273) -/

theorem zero_gadd (a : Byte) : gadd 0#8 a = a := BitVec.zero_xor

theorem gadd_zero (a : Byte) : gadd a 0#8 = a := BitVec.xor_zero

theorem gadd_self (a : Byte) : gadd a a = 0#8 := BitVec.xor_self

theorem gadd_assoc (a b c : Byte) : gadd (gadd a b) c = gadd a (gadd b c) := BitVec.xor_assoc a b c

theorem gadd_gadd_gadd_comm (a b c d : Byte) : gadd (gadd a b) (gadd c d) = gadd (gadd a c) (gadd b d) := by
  simp only [gadd]
  ac_rfl

/-- Adding an element twice adds nothing. -/
theorem gadd_gadd_cancel (a b : Byte) : gadd a (gadd a b) = b := by rw [← gadd_assoc, gadd_self, zero_gadd]

theorem gadd_gmul (a b c : Byte) : gmul (gadd a b) c = gadd (gmul a c) (gmul b c) := by
  rw [gmul_comm, gmul_gadd, gmul_comm c, gmul_comm c]

theorem gmul_gmul_gmul_comm (a b c d : Byte) : gmul (gmul a b) (gmul c d) = gmul (gmul a c) (gmul b d) := by
  rw [gmul_assoc, gmul_assoc, ← gmul_assoc b, gmul_comm b c, gmul_assoc c]

theorem one_gmul (a : Byte) : gmul 1#8 a = a := (gmul_comm _ a).trans (gmul_one a)

theorem gpow_zero (x : Byte) : gpow x 0 = 1#8 := by
  by_cases hx : x = 0#8
  · rw [hx]
    rfl
  · rw [gpow_of_ne_zero hx, Nat.mul_zero]
    rfl

theorem gpow_succ (x : Byte) (e : Nat) : gpow x (e + 1) = gmul (gpow x e) x := by
  have hone : gpow x 1 = x := by
    by_cases hx : x = 0#8
    · rw [hx]
      rfl
    · rw [gpow_of_ne_zero hx, Nat.mul_one, gexp_glog hx]
  rw [gpow_add, hone]

/-! ### Products of coefficient sequences (44_poly.md R294, R301)

A product's coefficients are the convolution of its factors'. Sequences under `gadd` and `conv` are a ring, whatever their degree,
and the proofs on division and on the key equation compute in it. -/

/-- The coefficient of `x^d` in the product of two coefficient sequences, by recursion on the first factor. -/
def conv (f g : Nat → Byte) : Nat → Byte
  | 0 => gmul (f 0) (g 0)
  | d + 1 => gadd (gmul (f 0) (g (d + 1))) (conv (fun i => f (i + 1)) g d)

section
variable (f f' g g' h : Nat → Byte) (c : Byte) (d : Nat)

theorem conv_succ : conv f g (d + 1) = gadd (gmul (f 0) (g (d + 1))) (conv (fun i => f (i + 1)) g d) := rfl

theorem conv_gadd_left : conv (fun i => gadd (f i) (f' i)) g d = gadd (conv f g d) (conv f' g d) := by
  induction d generalizing f f' with
  | zero => exact gadd_gmul _ _ _
  | succ d ih => simp only [conv_succ, gadd_gmul, ih, gadd_gadd_gadd_comm]

theorem conv_gadd_right : conv f (fun i => gadd (g i) (g' i)) d = gadd (conv f g d) (conv f g' d) := by
  induction d generalizing f with
  | zero => exact gmul_gadd _ _ _
  | succ d ih => simp only [conv_succ, gmul_gadd, ih, gadd_gadd_gadd_comm]

theorem conv_gmul_left : conv (fun i => gmul c (f i)) g d = gmul c (conv f g d) := by
  induction d generalizing f with
  | zero => exact gmul_assoc _ _ _
  | succ d ih => simp only [conv_succ, ih, gmul_assoc, gmul_gadd]

theorem conv_zero_left : conv (fun _ => 0#8) g d = 0#8 := by
  induction d with
  | zero => exact zero_gmul _
  | succ d ih => rw [conv_succ, ih, zero_gmul, gadd_zero]

theorem conv_zero_right : conv f (fun _ => 0#8) d = 0#8 := by
  induction d generalizing f with
  | zero => exact gmul_zero _
  | succ d ih => rw [conv_succ, ih, gmul_zero, gadd_zero]

theorem conv_assoc : conv (conv f g) h d = conv f (conv g h) d := by
  induction d generalizing f with
  | zero => exact gmul_assoc _ _ _
  | succ d ih =>
    have htail : conv (fun i => conv f g (i + 1)) h d =
        gadd (gmul (f 0) (conv (fun i => g (i + 1)) h d)) (conv (fun i => f (i + 1)) (conv g h) d) := by
      rw [← ih, ← conv_gmul_left, ← conv_gadd_left]
      rfl
    rw [conv_succ, htail, conv_succ f, conv_succ g, gmul_gadd, ← gmul_assoc, ← gadd_assoc]
    rfl

/-- The product by a monomial shifts. -/
theorem conv_monomial (n : Nat) :
    conv (fun i => if i = n then c else 0#8) g d = if n ≤ d then gmul c (g (d - n)) else 0#8 := by
  induction d generalizing n with
  | zero =>
    cases n with
    | zero => rfl
    | succ n => exact zero_gmul _
  | succ d ih =>
    cases n with
    | zero =>
      have htail : (fun i => if i + 1 = 0 then c else 0#8) = fun _ => 0#8 := rfl
      rw [conv_succ, htail, conv_zero_left, gadd_zero]
      rfl
    | succ n =>
      simp only [conv_succ, Nat.add_right_cancel_iff, ih, Nat.add_le_add_iff_right, Nat.add_sub_add_right]
      exact (congrArg (gadd · _) (zero_gmul _)).trans (zero_gadd _)

end

theorem polyMulCoef_eq_conv (p q : Poly) (d : Nat) : polyMulCoef p q d = conv (polyCoef p) (polyCoef q) d := by
  have hstart (l : List Byte) (v : Byte) : l.foldl gadd v = gadd v (l.foldl gadd 0#8) := by
    induction l generalizing v with
    | nil => exact (gadd_zero v).symm
    | cons c l ih => rw [List.foldl_cons, List.foldl_cons, ih, ih (gadd 0#8 c), zero_gadd, gadd_assoc]
  have hsum (f g : Nat → Byte) :
      ((List.range (d + 1)).map fun i => gmul (f i) (g (d - i))).foldl gadd 0#8 = conv f g d := by
    induction d generalizing f with
    | zero => exact zero_gadd _
    | succ d ih =>
      rw [List.range_succ_eq_map, List.map_cons, List.map_map, List.foldl_cons, hstart, zero_gadd, conv_succ, ← ih]
      simp only [Function.comp_def, Nat.succ_eq_add_one, Nat.add_sub_add_right, Nat.sub_zero]
  exact hsum _ _

theorem conv_one_left (g : Nat → Byte) (d : Nat) : conv (polyCoef [1#8]) g d = g d := by
  have hone : polyCoef [1#8] = fun i => if i = 0 then 1#8 else 0#8 := funext fun i => by rw [polyCoef_cons, polyCoef_nil]; rfl
  rw [hone, conv_monomial, if_pos (Nat.zero_le d), one_gmul, Nat.sub_zero]

theorem conv_pmono (n : Nat) (c : Byte) (b : Poly) (d : Nat) :
    conv (polyCoef (pmono n c)) (polyCoef b) d = polyCoef (polyShift b n c) d := by
  rw [funext (polyCoef_pmono n c), conv_monomial, polyCoef_polyShift, gmul_comm c]

theorem polyCoef_polyRawMul (a : Poly) {b : Poly} (hb : 1 ≤ b.length) (d : Nat) :
    polyCoef (polyRawMul a b) d = conv (polyCoef a) (polyCoef b) d := by
  induction a with
  | nil => rw [funext polyCoef_nil, conv_zero_left, polyRawMul, polyCoef_zeroBytes]
  | cons c a ih =>
    have hcons (i : Nat) : polyCoef (c :: a) i = gadd (polyCoef (pmono a.length c) i) (polyCoef a i) := by
      rw [polyCoef_cons, polyCoef_pmono]
      split
      · next hi => rw [polyCoef_eq_zero (Nat.le_of_eq hi.symm), gadd_zero]
      · rw [zero_gadd]
    rw [polyCoef_polyRawMul_cons c a hb, ih, funext hcons, conv_gadd_left, conv_pmono]

/-- A product of polynomials is one, with either factor empty too. -/
theorem exists_polyCoef_eq_conv (q u : Poly) : ∃ w : Poly, polyCoef w = conv (polyCoef q) (polyCoef u) := by
  have hcons : polyCoef (0#8 :: u) = polyCoef u := funext (polyCoef_zeroBytes_append 1 u)
  have hlen : 1 ≤ (0#8 :: u).length := Nat.le_add_left 1 u.length
  exact ⟨polyRawMul q (0#8 :: u), funext fun d => (polyCoef_polyRawMul q hlen d).trans (by rw [hcons])⟩

/-! ### Values (R298) -/

/-- The sum of `f i · x^i`, `i < n`. -/
def evalSum (f : Nat → Byte) (x : Byte) : Nat → Byte
  | 0 => 0#8
  | n + 1 => gadd (gmul (f n) (gpow x n)) (evalSum f x n)

section
variable {f g : Nat → Byte} {m n : Nat}

theorem evalSum_succ (f : Nat → Byte) (x : Byte) (n : Nat) :
    evalSum f x (n + 1) = gadd (gmul (f n) (gpow x n)) (evalSum f x n) := rfl

theorem evalSum_gadd (f g : Nat → Byte) (x : Byte) (n : Nat) :
    evalSum (fun d => gadd (f d) (g d)) x n = gadd (evalSum f x n) (evalSum g x n) := by
  induction n with
  | zero => exact (gadd_self 0#8).symm
  | succ n ih => simp only [evalSum_succ, gadd_gmul, ih, gadd_gadd_gadd_comm]

theorem evalSum_congr (x : Byte) (h : ∀ d, d < n → f d = g d) : evalSum f x n = evalSum g x n := by
  induction n with
  | zero => rfl
  | succ n ih => rw [evalSum_succ, evalSum_succ, h n (Nat.lt_succ_self n), ih fun d hd => h d (Nat.lt_succ_of_lt hd)]

theorem evalSum_add (x : Byte) (h : ∀ d, m ≤ d → f d = 0#8) (k : Nat) : evalSum f x (m + k) = evalSum f x m := by
  induction k with
  | zero => rfl
  | succ k ih => rw [← Nat.add_assoc, evalSum_succ, h _ (Nat.le_add_right m k), zero_gmul, zero_gadd, ih]

end

theorem peval_cons (c : Byte) (p : Poly) (x : Byte) :
    peval (c :: p) x = gadd (gmul c (gpow x p.length)) (peval p x) := by
  have hstart (v : Byte) :
      p.foldl (fun v c => gadd (gmul v x) c) v = gadd (gmul v (gpow x p.length)) (peval p x) := by
    induction p generalizing v with
    | nil => rw [List.length_nil, gpow_zero, gmul_one]; exact (gadd_zero v).symm
    | cons e p ih =>
      have htail : peval (e :: p) x = gadd (gmul e (gpow x p.length)) (peval p x) := by
        rw [peval, List.foldl_cons, ih, zero_gmul, zero_gadd]
      rw [List.foldl_cons, ih, htail, gadd_gmul, gmul_assoc, gmul_comm x, ← gpow_succ, gadd_assoc, List.length_cons]
  rw [peval, List.foldl_cons, hstart, zero_gmul, zero_gadd]

/-- A value is the sum over the coefficients, up to any degree from the length on. -/
theorem peval_eq_evalSum (p : Poly) (x : Byte) {n : Nat} (h : p.length ≤ n) : peval p x = evalSum (polyCoef p) x n := by
  have hlen : peval p x = evalSum (polyCoef p) x p.length := by
    induction p with
    | nil => rfl
    | cons c p ih =>
      have hlow (d : Nat) (hd : d < p.length) : polyCoef (c :: p) d = polyCoef p d :=
        (polyCoef_cons c p d).trans (if_neg (Nat.ne_of_lt hd))
      rw [peval_cons, List.length_cons, evalSum_succ, evalSum_congr x hlow, polyCoef_cons, if_pos rfl,
        ih (by rw [List.length_cons] at h; omega)]
  obtain ⟨k, rfl⟩ := Nat.le.dest h
  rw [hlen, evalSum_add x fun d => polyCoef_eq_zero]

/-- A sum of coefficients at every degree is a sum of values at every point. -/
theorem peval_gadd_of_polyCoef {p a b : Poly} (h : ∀ d, polyCoef p d = gadd (polyCoef a d) (polyCoef b d)) (x : Byte) :
    peval p x = gadd (peval a x) (peval b x) := by
  have hp : p.length ≤ p.length + a.length + b.length := by omega
  have ha : a.length ≤ p.length + a.length + b.length := by omega
  have hb : b.length ≤ p.length + a.length + b.length := by omega
  rw [peval_eq_evalSum p x hp, peval_eq_evalSum a x ha, peval_eq_evalSum b x hb, funext h, evalSum_gadd]

theorem peval_eq_zero {p : Poly} (h : ∀ d, polyCoef p d = 0#8) (x : Byte) : peval p x = 0#8 := by
  rw [peval_gadd_of_polyCoef (a := []) (b := []) (fun d => by rw [h, polyCoef_nil, gadd_self]) x, gadd_self]

theorem peval_zero (x : Byte) : peval [0#8] x = 0#8 := peval_eq_zero polyCoef_zero x

theorem peval_polyShift (a : Poly) (n : Nat) (c x : Byte) :
    peval (polyShift a n c) x = gmul (peval a x) (gmul c (gpow x n)) := by
  induction a with
  | nil => exact (peval_eq_zero (polyCoef_zeroBytes n) x).trans (zero_gmul _).symm
  | cons e a ih =>
    have hcons : polyShift (e :: a) n c = gmul e c :: polyShift a n c := rfl
    rw [hcons, peval_cons, peval_cons, ih, polyShift_length, gpow_add, gadd_gmul, gmul_gmul_gmul_comm]

theorem peval_polyRawMul (a : Poly) {b : Poly} (hb : 1 ≤ b.length) (x : Byte) :
    peval (polyRawMul a b) x = gmul (peval a x) (peval b x) := by
  induction a with
  | nil => exact (peval_eq_zero (polyCoef_zeroBytes _) x).trans (zero_gmul _).symm
  | cons c a ih =>
    rw [peval_gadd_of_polyCoef (polyCoef_polyRawMul_cons c a hb) x, peval_polyShift, ih, peval_cons, gadd_gmul,
      gmul_comm (peval b x)]

end Sys2Proof.Machine
end

section
/-! PROOFS of the statements on the polynomial commands (44_poly.md R290 to R299, R301) but for the division: the coefficients and
values of each operation, and each command's rule run on operands that pass its checks. -/

namespace Sys2Proof.Machine

/-! ### The generator polynomial (44_poly.md R299, R301) -/

/-- The generator of degree `k` vanishes at the first `k` powers of α (R299). -/
theorem peval_pgen_gexp {k i : Nat} (hi : i < k) : peval (pgen k) (gexp i) = 0#8 := by
  induction k with
  | zero => exact absurd hi (Nat.not_lt_zero i)
  | succ k ih =>
    rw [pgen, peval_polyRawMul _ (by simp)]
    obtain hlt | rfl := Nat.lt_succ_iff_lt_or_eq.1 hi
    · rw [ih hlt, zero_gmul]
    · have hroot : peval [1#8, gexp i] (gexp i) = 0#8 := by
        simp only [peval, List.foldl_cons, List.foldl_nil, zero_gmul, zero_gadd, one_gmul, gadd_self]
      rw [hroot, gmul_zero]

/-- Settles O31: the coefficients of each operation, and each factor `x + α^i` of the generator. -/
theorem polyCoefficients : Obligations.PolyCoefficients := fun a b c n d k _ _ =>
  ⟨polyCoef_padd a b d, polyCoef_pscale a c d, polyCoef_pmono n c d, pgen_length k, polyLead_pgen k, fun _ => peval_pgen_gexp⟩

/-! ### Products (R294, R296) -/

section
variable {a b p : Poly} {d : Nat} {c : Byte}

/-- The shape both products have: 0 when a factor is, the polynomial when it fits, PolyOverflow(0) otherwise. -/
def productOf (isZero fits : Prop) [Decidable isZero] [Decidable fits] (p : Poly) : Except Raise Poly :=
  if isZero then .ok [0#8] else if fits then .ok p else .error (raise .polyOverflow 0)

theorem pmul_eq (a b : Poly) :
    pmul a b = productOf (a = [0#8] ∨ b = [0#8]) (a.length + b.length - 1 ≤ 256) (polyRawMul a b) :=
  ite_congr (propext (by simp only [polyIsZero, Bool.or_eq_true, beq_iff_eq])) (fun _ => rfl) fun _ => rfl

theorem pmulmono_eq (a : Poly) (d : Nat) (c : Byte) :
    pmulmono a d c = productOf (a = [0#8] ∨ c = 0#8) (a.length + d ≤ 256) (polyShift a d c) :=
  ite_congr (propext (by simp only [polyIsZero, Bool.or_eq_true, decide_eq_true_eq, beq_iff_eq, Or.comm])) (fun _ => rfl)
    fun _ => rfl

section
variable {isZero fits : Prop} [Decidable isZero] [Decidable fits]

theorem productOf_fits (h : isZero ∨ fits) : ∃ q, productOf isZero fits p = .ok q := by
  unfold productOf
  split
  · exact ⟨_, rfl⟩
  · next hz => exact ⟨_, if_pos (h.resolve_left hz)⟩

theorem productOf_overflows (h : ¬ (isZero ∨ fits)) : productOf isZero fits p = .error (raise .polyOverflow 0) := by
  rw [not_or] at h
  rw [productOf, if_neg h.1, if_neg h.2]

theorem productOf_eq_ok {q : Poly} (h : productOf isZero fits p = .ok q) : q = [0#8] ∧ isZero ∨ q = p := by
  unfold productOf at h
  split at h
  · next hz => exact .inl ⟨(Except.ok.inj h).symm, hz⟩
  · split at h
    · exact .inr (Except.ok.inj h).symm
    · cases h

end

theorem pmul_fits (h : a = [0#8] ∨ b = [0#8] ∨ a.length + b.length - 1 ≤ 256) : ∃ p, pmul a b = .ok p :=
  pmul_eq a b ▸ productOf_fits (or_assoc.2 h)

theorem pmul_overflows (h : ¬ (a = [0#8] ∨ b = [0#8] ∨ a.length + b.length - 1 ≤ 256)) :
    pmul a b = .error (raise .polyOverflow 0) :=
  (pmul_eq a b).trans (productOf_overflows fun hf => h (or_assoc.1 hf))

theorem pmul_eq_ok (h : pmul a b = .ok p) : p = [0#8] ∧ (a = [0#8] ∨ b = [0#8]) ∨ p = polyRawMul a b :=
  productOf_eq_ok ((pmul_eq a b).symm.trans h)

theorem pmulmono_fits (h : a = [0#8] ∨ c = 0#8 ∨ a.length + d ≤ 256) : ∃ p, pmulmono a d c = .ok p :=
  pmulmono_eq a d c ▸ productOf_fits (or_assoc.2 h)

theorem pmulmono_overflows (h : ¬ (a = [0#8] ∨ c = 0#8 ∨ a.length + d ≤ 256)) :
    pmulmono a d c = .error (raise .polyOverflow 0) :=
  (pmulmono_eq a d c).trans (productOf_overflows fun hf => h (or_assoc.1 hf))

theorem pmulmono_eq_ok (h : pmulmono a d c = .ok p) : p = [0#8] ∧ (a = [0#8] ∨ c = 0#8) ∨ p = polyShift a d c :=
  productOf_eq_ok ((pmulmono_eq a d c).symm.trans h)

theorem peval_pmul (hb : 1 ≤ b.length) (h : pmul a b = .ok p) (x : Byte) : peval p x = gmul (peval a x) (peval b x) := by
  obtain ⟨rfl, rfl | rfl⟩ | rfl := pmul_eq_ok h
  · rw [peval_zero, zero_gmul]
  · rw [peval_zero, gmul_zero]
  · exact peval_polyRawMul a hb x

theorem peval_pmulmono (h : pmulmono a d c = .ok p) (x : Byte) : peval p x = gmul (peval a x) (gmul c (gpow x d)) := by
  obtain ⟨rfl, rfl | rfl⟩ | rfl := pmulmono_eq_ok h
  · rw [peval_zero, zero_gmul]
  · rw [peval_zero, zero_gmul, gmul_zero]
  · exact peval_polyShift a d c x

end

section
variable {s : State} {rd rs1 rs2 : PReg}

/-- A function that raises when the last row of the table fails. -/
theorem Result.Reports.andThen_last {α : Type} {p : Prop} [Decidable p] {k : ErrKind} {n : Nat} {x : Except Raise α}
    {f : α → Result} (h : ¬ p → x = .error (raise k n)) : Result.Reports (needs p k n) (andThen x f) := by
  intro e he
  by_cases hp : p
  · simp [needs_of hp] at he
  · rw [needs_of_not hp, Option.some_inj] at he
    rw [h hp, andThen_error, he]

/-- A byte operand's check against its row of the table, then the rest of both. -/
theorem Result.Reports.requireByte {i : Fin 8} {o : Option Raise} {f : Unit → Result}
    (h : s.argv i ≤ 255 → Result.Reports o (f ())) : Result.Reports (s.byteCheck i <|> o) (s.requireByte i f) :=
  .requireArg (and_iff_right (Nat.zero_le _)) h

theorem argByte_eq_zero_iff {i : Fin 8} (h : s.argv i ≤ 255) : s.argByte i = 0#8 ↔ s.argv i = 0 := by
  rw [State.argByte, ← BitVec.toNat_inj, BitVec.toNat_ofNat, Nat.mod_eq_of_lt (by omega)]
  rfl

theorem execPMul_of_ok {p : Poly} (h : pmul (s.getPoly rs1) (s.getPoly rs2) = .ok p) :
    exec (.pMul rd rs1 rs2) s = .next (s.putPoly rd p).successEnd := by
  rw [exec, execPMul, h, andThen_ok, State.finish_ok]

theorem execPMulmono_of_ok {p : Poly} (h0 : s.argv 0 ≤ 255) (h1 : s.argv 1 ≤ 255)
    (h : pmulmono (s.getPoly rs1) (s.argv 0) (s.argByte 1) = .ok p) :
    exec (.pMulmono rd rs1) s = .next (s.putPoly rd p).successEnd := by
  rw [exec, execPMulmono, State.requireByte_pos h0, State.requireByte_pos h1, h, andThen_ok, State.finish_ok]

theorem pMul_reportsErrors : s.reportsErrors (.pMul rd rs1 rs2) :=
  State.reportsErrors_of_reports rfl (.andThen_last pmul_overflows)

theorem pMulmono_reportsErrors : s.reportsErrors (.pMulmono rd rs1) :=
  State.reportsErrors_of_reports rfl <| .requireByte fun _ => .requireByte fun h1 => .andThen_last fun h =>
    pmulmono_overflows (by rwa [argByte_eq_zero_iff h1])

end

/-- Settles O32: where the product fits it is the polynomial of R294 or R296, and where it does not its row of the table fails. -/
theorem polyProducts : Obligations.PolyProducts := by
  intro s rd rs1 rs2
  refine ⟨fun ha hb => ⟨?_, fun h0 h1 => ?_⟩, pMul_reportsErrors, pMulmono_reportsErrors⟩
  · split
    · next h =>
      obtain ⟨p, hp⟩ := pmul_fits h
      exact ⟨p, execPMul_of_ok hp, polyHeld_pmul ha hb hp, peval_pmul hb.1 hp⟩
    · next h => exact pMul_reportsErrors _ (needs_of_not h)
  · have hzero := argByte_eq_zero_iff h1
    split
    · next h =>
      rw [← hzero] at h
      obtain ⟨p, hp⟩ := pmulmono_fits h
      exact ⟨p, execPMulmono_of_ok h0 h1 hp, polyHeld_pmulmono ha hp, peval_pmulmono hp⟩
    · next h =>
      refine pMulmono_reportsErrors _ ?_
      rw [State.firstError, State.byteCheck, State.byteCheck, needs_of h0, needs_of h1, needs_of_not h]
      rfl

/-! ### P_LOAD and P_STORE (44_poly.md R290, R291) -/

section
variable {s : State} {rd rs1 rs2 : PReg}

/-- A DRAM range's check that is the last row of the table. -/
theorem Result.Reports.requireRange_last {i : Fin 8} {n : Nat} {f : Unit → Result} :
    Result.Reports (s.rangeCheck i n) (s.requireRange i n f) :=
  .require_last decide_eq_true_iff

/-- A byte operand's check that is the last row of the table. -/
theorem Result.Reports.requireByte_last {i : Fin 8} {f : Unit → Result} :
    Result.Reports (s.byteCheck i) (s.requireByte i f) := .requireArg_last (and_iff_right (Nat.zero_le _))

theorem polyNorm_of_polyHeld {p : Poly} (h : polyHeld p) : polyNorm p = p := by
  obtain ⟨hpos, -, hlead⟩ := h
  fun_cases polyNorm p with
  | case1 => rfl
  | case2 => rfl
  | case3 c l => simp [polyLead] at hlead
  | case4 => rfl

theorem execPLoad_of_range (h1 : 1 ≤ s.argv 1) (h1' : s.argv 1 ≤ 256) (hr : s.argv 0 + s.argv 1 ≤ Config.dramBytes) :
    exec (.pLoad rd) s = .next (s.putPoly rd (polyNorm (s.memRead (s.argv 0) (s.argv 1)))).successEnd := by
  rw [exec, execPLoad, State.requireArg_pos h1 h1', State.requireRange_pos hr, State.finish_ok]

theorem execPStore_of_range (hr : s.argv 0 + (s.getPoly rs1).length ≤ Config.dramBytes) :
    exec (.pStore rs1) s =
      .next ((s.memWrite (s.argv 0) (s.getPoly rs1)).setResNat 0 (s.getPoly rs1).length).successEnd := by
  rw [exec, execPStore, State.requireRange_pos hr, State.finish_ok]

theorem pLoad_reportsErrors : s.reportsErrors (.pLoad rd) :=
  State.reportsErrors_of_reports rfl <| .requireArg .rfl fun _ => .requireRange_last

theorem pStore_reportsErrors : s.reportsErrors (.pStore rs1) := State.reportsErrors_of_reports rfl .requireRange_last

theorem State.argv_setArg (s : State) (i j : Fin 8) (w : Word) :
    State.argv { s with arg := s.arg.set i w } j = if j = i then w.toNat else s.argv j := by
  simp only [State.argv, Fin.getElem_fin, Vector.getElem_set, Fin.ext_iff, eq_comm, apply_ite BitVec.toNat]

/-- A P_LOAD of the range that a register's polynomial was written to gives it back. -/
theorem execPLoad_of_memRead {p : Poly} {base : Nat} (hp : polyHeld p) (hr : base + p.length ≤ Config.dramBytes)
    (hbase : s.argv 0 = base) (hlen : s.argv 1 = p.length) (hread : s.memRead base p.length = p) :
    ∃ u, exec (.pLoad rd) s = .next u ∧ u.getPoly rd = p := by
  refine ⟨_, execPLoad_of_range (hlen ▸ hp.1) (hlen ▸ hp.2.1) (by rwa [hbase, hlen]), ?_⟩
  rw [hbase, hlen, hread, polyNorm_of_polyHeld hp]
  exact (State.getPoly_setPoly s rd rd p).trans (if_pos rfl)

end

/-- Settles O29: the bytes written read back, and `norm` leaves a register's polynomial as it is. -/
theorem polyLoadStore : Obligations.PolyLoadStore := by
  intro s rd rs1
  refine ⟨execPLoad_of_range, fun hr hp => ⟨_, execPStore_of_range hr, rfl, fun j hj => ?_, fun a ha => ?_, ?_⟩,
    pLoad_reportsErrors, pStore_reportsErrors⟩
  · exact (Memory.read_write_of_inside s.dram (s.argv 0) _ j hj).trans (by simp [hj])
  · exact Memory.read_write_of_outside s.dram (s.argv 0) _ a ha
  · have hlen : (s.getPoly rs1).length < 2 ^ 32 := Nat.lt_of_le_of_lt hp.2.1 (by decide)
    exact execPLoad_of_memRead hp hr (State.argv_setArg _ 1 0 _)
      ((State.argv_setArg _ 1 1 _).trans (State.toNat_res0_setResNat hlen)) (State.memRead_memWrite s (s.argv 0) _)

/-! ### P_MONO, P_ADD, P_SCALE, P_EVAL, P_GEN (R292, R293, R295, R298, R299) -/

section
variable {s : State} {rd rs1 rs2 : PReg}

theorem execPMono_of_bytes (h0 : s.argv 0 ≤ 255) (h1 : s.argv 1 ≤ 255) :
    exec (.pMono rd) s = .next (s.putPoly rd (pmono (s.argv 0) (s.argByte 1))).successEnd := by
  rw [exec, execPMono, State.requireByte_pos h0, State.requireByte_pos h1, State.finish_ok]

theorem execPScale_of_byte (h0 : s.argv 0 ≤ 255) :
    exec (.pScale rd rs1) s = .next (s.putPoly rd (pscale (s.getPoly rs1) (s.argByte 0))).successEnd := by
  rw [exec, execPScale, State.requireByte_pos h0, State.finish_ok]

theorem execPEval_of_byte (h0 : s.argv 0 ≤ 255) :
    exec (.pEval rs1) s = .next (s.setResNat 0 (peval (s.getPoly rs1) (s.argByte 0)).toNat).successEnd := by
  rw [exec, execPEval, State.requireByte_pos h0, State.finish_ok]

theorem execPGen_of_byte (h0 : s.argv 0 ≤ 255) :
    exec (.pGen rd) s = .next ((s.setPoly rd (pgen (s.argv 0))).setResNat 0 (s.argv 0 + 1)).successEnd := by
  rw [exec, execPGen, State.requireByte_pos h0, State.finish_ok]

theorem polyArithmetic_reportsErrors {i : Instr} (hi : i = .pScale rd rs1 ∨ i = .pEval rs1 ∨ i = .pGen rd ∨ i = .pMono rd) :
    s.reportsErrors i := by
  obtain rfl | rfl | rfl | rfl := hi
  · exact State.reportsErrors_of_reports rfl .requireByte_last
  · exact State.reportsErrors_of_reports rfl .requireByte_last
  · exact State.reportsErrors_of_reports rfl .requireByte_last
  · exact State.reportsErrors_of_reports rfl <| .requireByte fun _ => .requireByte_last

end

/-- Settles O30: each command's byte checks one after another, where they hold and where the first fails. -/
theorem polyArithmeticResults : Obligations.PolyArithmeticResults := fun _ _ _ _ =>
  ⟨rfl, fun h0 => ⟨execPScale_of_byte h0, execPEval_of_byte h0, execPGen_of_byte h0⟩, execPMono_of_bytes,
    fun _ => polyArithmetic_reportsErrors⟩

end Sys2Proof.Machine
end

section
/-! PROOFS of the statements on the division and on P_EUCLID (44_poly.md R297, R300, R301). Each round of the division moves a
multiple of the divisor from the remainder to the quotient. The loop of R300 keeps one invariant (`EuclidInv`): both pairs it
holds solve the key equation, and the degree of each factor is at most what the remainders have lost, so no product
overflows. -/

namespace Sys2Proof.Machine

/-! ### Division (R297) -/

section
variable {a b p q r : Poly} {n m : Nat}

theorem polyLead_ne_zero_of_ne (h : polyHeld p) (hz : p ≠ [0#8]) : polyLead p ≠ 0#8 :=
  polyLead_ne_zero h (beq_eq_false_iff_ne.2 hz)

theorem ne_zero_of_two_le_length (h : 2 ≤ p.length) : p ≠ [0#8] := by
  rintro rfl
  exact absurd h (by decide)

/-- A held polynomial is no longer than its coefficients that are not 0. -/
theorem eq_zero_or_length_le (hp : polyHeld p) (h : ∀ d, n ≤ d → polyCoef p d = 0#8) : p = [0#8] ∨ p.length ≤ n := by
  refine Decidable.or_iff_not_imp_left.2 fun hz => Nat.le_of_not_lt fun hlt => polyLead_ne_zero_of_ne hp hz ?_
  rw [← polyCoef_length_sub_one]
  exact h _ (by omega)

theorem padd_length_le (a b : Poly) : (padd a b).length ≤ max a.length b.length :=
  Nat.le_trans (polyNorm_length_le _) (by
    simp only [zeroBytes, List.length_zipWith, List.length_append, List.length_replicate]
    omega)

theorem pmono_length_le (n : Nat) (c : Byte) : (pmono n c).length ≤ n + 1 := by
  unfold pmono
  split <;> simp [zeroBytes]

/-- A sum of two polynomials of the same length and leading coefficient is 0 or shorter. -/
theorem padd_shorter (ha : polyHeld a) (hlen : b.length = a.length) (hlead : polyLead b = polyLead a) :
    padd a b = [0#8] ∨ (padd a b).length < a.length := by
  have hpos := ha.1
  have htop (d : Nat) (hd : a.length - 1 ≤ d) : polyCoef (padd a b) d = 0#8 := by
    obtain hd | rfl := Nat.eq_or_lt_of_le hd |>.symm
    · rw [polyCoef_padd, polyCoef_eq_zero (by omega), polyCoef_eq_zero (by omega)]
      rfl
    · rw [polyCoef_padd, polyCoef_length_sub_one, ← hlen, polyCoef_length_sub_one, hlead]
      exact BitVec.xor_self
  exact (eq_zero_or_length_le (polyHeld_padd hpos ha.2.1 (hlen ▸ ha.2.1)) htop).imp_right fun h => by omega

theorem polyLead_polyShift (hb : 1 ≤ b.length) (n : Nat) (c : Byte) : polyLead (polyShift b n c) = gmul (polyLead b) c := by
  obtain ⟨e, b, rfl⟩ := List.exists_cons_of_length_pos hb
  rfl

/-- One round of the division makes the remainder 0 or shorter. -/
theorem divRound_shorter (hb : polyHeld b) (hb0 : b ≠ [0#8]) (hr : polyHeld r) (hle : polyDeg b ≤ polyDeg r) :
    let r' := padd r (polyShift b (polyDeg r - polyDeg b) (gmul (polyLead r) (ginv (polyLead b))))
    polyHeld r' ∧ (r' = [0#8] ∨ r'.length < r.length) := by
  have hlen (c : Byte) : (polyShift b (polyDeg r - polyDeg b) c).length = r.length := by
    have hbpos := hb.1
    have hrpos := hr.1
    rw [polyShift_length]
    simp only [polyDeg] at *
    omega
  refine ⟨polyHeld_padd hr.1 hr.2.1 (hlen _ ▸ hr.2.1), padd_shorter hr (hlen _) ?_⟩
  rw [polyLead_polyShift hb.1, gmul_comm (polyLead r), ← gmul_assoc, gmul_ginv (polyLead_ne_zero_of_ne hb hb0), gmul_comm,
    gmul_one]

theorem divLoop_done {inv : Byte} (hr : 1 ≤ r.length) (h : r = [0#8] ∨ r.length < b.length) :
    divLoop n b inv q r = (q, r) := by
  cases n with
  | zero => rfl
  | succ n =>
    rw [divLoop, if_neg]
    obtain rfl | h := h
    · simp [polyIsZero]
    · have hdeg : ¬ polyDeg b ≤ polyDeg r := by
        simp only [polyDeg]
        omega
      simp [hdeg]

theorem divLoop_round {inv : Byte} (h0 : r ≠ [0#8]) (h : b.length ≤ r.length) :
    divLoop (n + 1) b inv q r = divLoop n b inv (padd q (pmono (polyDeg r - polyDeg b) (gmul (polyLead r) inv)))
      (padd r (polyShift b (polyDeg r - polyDeg b) (gmul (polyLead r) inv))) := by
  rw [divLoop, if_pos]
  simp [polyIsZero, h0, polyDeg, Nat.sub_le_sub_right h 1]

/-- The division ends with a remainder that is 0 or shorter than the divisor, if it has a round for each coefficient, and its
quotient is 0 or of the degree the dividend and the divisor give. -/
theorem divLoop_spec (hb : polyHeld b) (hb0 : b ≠ [0#8]) (hr : polyHeld r) (hn : r = [0#8] ∨ r.length ≤ n) (hrm : r.length ≤ m)
    (hq : q = [0#8] ∨ q.length + b.length ≤ m + 1) {q' r' : Poly} (h : divLoop n b (ginv (polyLead b)) q r = (q', r')) :
    (r' = [0#8] ∨ r'.length < b.length) ∧ (q' = [0#8] ∨ q'.length + b.length ≤ m + 1) := by
  induction n generalizing q r with
  | zero =>
    cases h
    exact ⟨.inl (hn.resolve_right (Nat.not_le.2 hr.1)), hq⟩
  | succ n ih =>
    by_cases hstop : r = [0#8] ∨ r.length < b.length
    · rw [divLoop_done hr.1 hstop] at h
      cases h
      exact ⟨hstop, hq⟩
    · rw [not_or, Nat.not_lt] at hstop
      obtain ⟨hr0, hle⟩ := hstop
      obtain ⟨hr', hlt⟩ := divRound_shorter hb hb0 hr (Nat.sub_le_sub_right hle 1)
      rw [divLoop_round hr0 hle] at h
      have hrn := hn.resolve_left hr0
      have hrpos := hr.1
      refine ih hr' (hlt.imp_right fun hlt => by omega) ?_ (.inr ?_) h
      · obtain h0 | hlt := hlt
        · rw [h0]
          exact Nat.le_trans hr.1 hrm
        · omega
      · have hsum := padd_length_le q (pmono (polyDeg r - polyDeg b) (gmul (polyLead r) (ginv (polyLead b))))
        have hmono := pmono_length_le (polyDeg r - polyDeg b) (gmul (polyLead r) (ginv (polyLead b)))
        have hbpos := hb.1
        have hq1 : q.length + b.length ≤ m + 1 := by
          obtain rfl | hq := hq
          · rw [List.length_singleton]
            omega
          · exact hq
        simp only [polyDeg] at hsum hmono
        simp only [polyDeg]
        omega

theorem pdivmod_eq (a : Poly) (hb0 : b ≠ [0#8]) : pdivmod a b = .ok (divLoop a.length b (ginv (polyLead b)) [0#8] a) :=
  if_neg (by simpa [polyIsZero] using hb0)

theorem pdivmod_zero (a : Poly) : pdivmod a [0#8] = .error (raise .divideByZero 0) := rfl

/-- The degrees of a quotient and a remainder. -/
theorem pdivmod_lengths (ha : polyHeld a) (hb : polyHeld b) (hb0 : b ≠ [0#8]) (h : pdivmod a b = .ok (q, r)) :
    (r = [0#8] ∨ r.length < b.length) ∧ (q = [0#8] ∨ q.length + b.length ≤ a.length + 1) :=
  divLoop_spec hb hb0 ha (.inr (Nat.le_refl _)) (Nat.le_refl _) (.inl rfl) (Except.ok.inj ((pdivmod_eq a hb0).symm.trans h))

/-- Each round moves a multiple of the divisor from the remainder to the quotient. -/
theorem divLoop_identity (n : Nat) (b : Poly) (inv : Byte) (q r : Poly) (d : Nat) :
    gadd (conv (polyCoef (divLoop n b inv q r).1) (polyCoef b) d) (polyCoef (divLoop n b inv q r).2 d) =
      gadd (conv (polyCoef q) (polyCoef b) d) (polyCoef r d) := by
  fun_induction divLoop n b inv q r with
  | case1 => rfl
  | case2 n b inv q r hc dd sc ih =>
    rw [ih, funext (polyCoef_padd q _), conv_gadd_left, conv_pmono, polyCoef_padd, gadd_gadd_gadd_comm, gadd_self, gadd_zero]
  | case3 => rfl

theorem pdivmod_identity (hb0 : b ≠ [0#8]) (h : pdivmod a b = .ok (q, r)) (d : Nat) :
    polyCoef a d = gadd (conv (polyCoef q) (polyCoef b) d) (polyCoef r d) := by
  have hloop := divLoop_identity a.length b (ginv (polyLead b)) [0#8] a d
  rw [Except.ok.inj ((pdivmod_eq a hb0).symm.trans h), funext polyCoef_zero, conv_zero_left, zero_gadd] at hloop
  exact hloop.symm

theorem peval_pdivmod (hb : 1 ≤ b.length) (hb0 : b ≠ [0#8]) (h : pdivmod a b = .ok (q, r)) (x : Byte) :
    peval a x = gadd (gmul (peval q x) (peval b x)) (peval r x) := by
  have hcoef (d : Nat) : polyCoef a d = gadd (polyCoef (polyRawMul q b) d) (polyCoef r d) := by
    rw [polyCoef_polyRawMul q hb, pdivmod_identity hb0 h]
  rw [peval_gadd_of_polyCoef hcoef, peval_polyRawMul q hb]

end

section
variable {s : State} {rd rs1 rs2 : PReg}

theorem execPRem_of_ok {q r : Poly} (h : pdivmod (s.getPoly rs1) (s.getPoly rs2) = .ok (q, r)) :
    exec (.pRem rd rs1 rs2) s = .next (s.putPoly rd r).successEnd := by
  rw [exec, execPRem, h, andThen_ok, State.finish_ok]

theorem execPRem_of_zero (h : s.getPoly rs2 = [0#8]) :
    exec (.pRem rd rs1 rs2) s = .next (s.errorEnd (raise .divideByZero 0)) := by
  rw [exec, execPRem, h, pdivmod_zero, andThen_error, State.finish_error]

end

/-- Settles O33: the quotient of R297, written as the empty list when it is 0. -/
theorem polyRemainder : Obligations.PolyRemainder := by
  intro s rd rs1 rs2 ha hb
  refine ⟨fun hb0 => ?_, execPRem_of_zero⟩
  have hdiv := pdivmod_eq (s.getPoly rs1) hb0
  obtain ⟨hr, hq⟩ := pdivmod_lengths ha hb hb0 hdiv
  have hval := peval_pdivmod hb.1 hb0 hdiv
  have hheld := (polyHeld_pdivmod ha hb hdiv).2
  obtain hq0 | hq := hq
  · refine ⟨[], _, execPRem_of_ok hdiv, hheld, hr, .inl rfl, fun x => ?_⟩
    rw [hval x, hq0, peval_zero]
    rfl
  · exact ⟨_, _, execPRem_of_ok hdiv, hheld, hr, .inr hq, hval⟩

/-! ### The key equation (44_poly.md R300, R301) -/

section
variable {a b : Poly}

theorem keyEquation_iff {l o : Poly} : keyEquation a b l o ↔
    ∃ u : Poly, ∀ d, conv (polyCoef l) (polyCoef b) d = gadd (polyCoef o d) (conv (polyCoef u) (polyCoef a) d) := by
  simp only [keyEquation, polyMulCoef_eq_conv]

theorem polyCoef_pmul {p q t : Poly} (ht : 1 ≤ t.length) (h : pmul q t = .ok p) (d : Nat) :
    polyCoef p d = conv (polyCoef q) (polyCoef t) d := by
  obtain ⟨rfl, rfl | rfl⟩ | rfl := pmul_eq_ok h
  · rw [funext polyCoef_zero, conv_zero_left]
  · rw [funext polyCoef_zero, conv_zero_right]
  · exact polyCoef_polyRawMul q ht d

theorem keyEquation_left (a b : Poly) : keyEquation a b [0#8] a := by
  refine keyEquation_iff.2 ⟨[1#8], fun d => ?_⟩
  rw [funext polyCoef_zero, conv_zero_left, conv_one_left, gadd_self]

theorem keyEquation_right (a b : Poly) : keyEquation a b [1#8] b := by
  refine keyEquation_iff.2 ⟨[0#8], fun d => ?_⟩
  rw [conv_one_left, funext polyCoef_zero, conv_zero_left, gadd_zero]

theorem keyEquation_pscale {l o : Poly} (h : keyEquation a b l o) (c : Byte) : keyEquation a b (pscale l c) (pscale o c) := by
  obtain ⟨u, hu⟩ := keyEquation_iff.1 h
  have hscale (p : Poly) : polyCoef (pscale p c) = fun d => gmul c (polyCoef p d) :=
    funext fun d => (polyCoef_pscale p c d).trans (gmul_comm _ _)
  refine keyEquation_iff.2 ⟨pscale u c, fun d => ?_⟩
  simp only [hscale, conv_gmul_left, hu, gmul_gadd]

/-- A division step takes two solutions to a third. -/
theorem keyEquation_step {rl r tl t q rem qt : Poly} (hl : keyEquation a b tl rl) (h : keyEquation a b t r) (ht : 1 ≤ t.length)
    (hr : r ≠ [0#8]) (hdiv : pdivmod rl r = .ok (q, rem)) (hmul : pmul q t = .ok qt) : keyEquation a b (padd qt tl) rem := by
  obtain ⟨ul, hul⟩ := keyEquation_iff.1 hl
  obtain ⟨u, hu⟩ := keyEquation_iff.1 h
  obtain ⟨w, hw⟩ := exists_polyCoef_eq_conv q u
  refine keyEquation_iff.2 ⟨padd w ul, fun d => ?_⟩
  have hqt : conv (polyCoef qt) (polyCoef b) d =
      gadd (conv (polyCoef q) (polyCoef r) d) (conv (polyCoef w) (polyCoef a) d) := by
    rw [funext (polyCoef_pmul ht hmul), conv_assoc, funext hu, conv_gadd_right, ← conv_assoc, hw]
  calc conv (polyCoef (padd qt tl)) (polyCoef b) d
      = gadd (conv (polyCoef qt) (polyCoef b) d) (conv (polyCoef tl) (polyCoef b) d) := by
        rw [funext (polyCoef_padd qt tl), conv_gadd_left]
    _ = gadd (gadd (conv (polyCoef q) (polyCoef r) d) (polyCoef rl d))
          (gadd (conv (polyCoef w) (polyCoef a) d) (conv (polyCoef ul) (polyCoef a) d)) := by
        rw [hqt, hul, gadd_gadd_gadd_comm]
    _ = gadd (polyCoef rem d) (conv (polyCoef (padd w ul)) (polyCoef a) d) := by
        rw [pdivmod_identity hr hdiv, gadd_gadd_cancel, funext (polyCoef_padd w ul), conv_gadd_left]

end

/-! ### The loop (R300) -/

section
variable {a b rl r tl t q rem qt : Poly} {bound n steps : Nat}

/-- What the loop keeps: both pairs solve the key equation, the remainders fall, and the degree of each factor is at most what
the remainders have lost. -/
structure EuclidInv (a b rl r tl t : Poly) : Prop where
  rl_held : polyHeld rl
  r_held : polyHeld r
  tl_held : polyHeld tl
  t_held : polyHeld t
  r_le : r.length ≤ rl.length
  tl_len : tl.length + rl.length ≤ a.length + 1
  t_len : t.length + rl.length ≤ a.length + 1
  tl_key : keyEquation a b tl rl
  t_key : keyEquation a b t r

theorem euclidInv_start (ha : polyHeld a) (hb : polyHeld b) (hle : b.length ≤ a.length) : EuclidInv a b a b [0#8] [1#8] where
  rl_held := ha
  r_held := hb
  tl_held := polyHeld_single _
  t_held := polyHeld_single _
  r_le := hle
  tl_len := Nat.le_of_eq (Nat.add_comm _ _)
  t_len := Nat.le_of_eq (Nat.add_comm _ _)
  tl_key := keyEquation_left a b
  t_key := keyEquation_right a b

theorem pmul_length_le (hq : 1 ≤ q.length) (ht : 1 ≤ t.length) (h : pmul q t = .ok qt) :
    qt.length ≤ q.length + t.length - 1 := by
  obtain ⟨rfl, -⟩ | rfl := pmul_eq_ok h
  · rw [List.length_singleton]
    omega
  · exact Nat.le_of_eq (polyRawMul_length q t ht)

/-- A step neither divides by 0 nor overflows, and keeps what the loop keeps. -/
theorem EuclidInv.step (h : EuclidInv a b rl r tl t) (ha : polyHeld a) (hr : r ≠ [0#8]) :
    ∃ q rem qt, pdivmod rl r = .ok (q, rem) ∧ pmul q t = .ok qt ∧ EuclidInv a b r rem t (padd qt tl) ∧
      (rem = [0#8] ∨ rem.length < r.length) := by
  obtain ⟨hrl, hrh, htl, hth, hle, htllen, htlen, htlkey, htkey⟩ := h
  obtain ⟨⟨q, rem⟩, hdiv⟩ : ∃ x, pdivmod rl r = .ok x := ⟨_, pdivmod_eq rl hr⟩
  obtain ⟨hq, hrem⟩ := polyHeld_pdivmod hrl hrh hdiv
  obtain ⟨hremlt, hqlen⟩ := pdivmod_lengths hrl hrh hr hdiv
  have hfits : q = [0#8] ∨ q.length + t.length - 1 + r.length ≤ a.length + 1 := hqlen.imp_right fun h => by omega
  have halen : a.length ≤ 256 := ha.2.1
  have hrpos := hrh.1
  obtain ⟨qt, hmul⟩ : ∃ x, pmul q t = .ok x := pmul_fits (hfits.imp_right fun h => .inr (by omega))
  have hqt := polyHeld_pmul hq hth hmul
  have hqtlen : qt.length + r.length ≤ a.length + 1 := by
    have hle := pmul_length_le hq.1 hth.1 hmul
    obtain rfl | h := hfits
    · rw [List.length_singleton] at hle
      omega
    · omega
  have hsum := padd_length_le qt tl
  refine ⟨q, rem, qt, hdiv, hmul, ⟨hrh, hrem, hth, polyHeld_padd hqt.1 hqt.2.1 htl.2.1, ?_, by omega, by omega, htkey,
    keyEquation_step htlkey htkey hth.1 hr hdiv hmul⟩, hremlt⟩
  obtain rfl | h := hremlt
  · exact hrpos
  · exact Nat.le_of_lt h

theorem euclidLoop_done (h : 2 * polyDeg r < bound) : euclidLoop bound (n + 1) rl r tl t steps = .ok (t, r, steps) := by
  rw [euclidLoop, if_neg (Nat.not_le.2 h)]

theorem euclidLoop_zero : euclidLoop 0 (n + 1) rl [0#8] tl t steps = .error (raise .rsUndecodable 1) := rfl

theorem euclidLoop_step (h : bound ≤ 2 * polyDeg r) (hr : r ≠ [0#8]) (hdiv : pdivmod rl r = .ok (q, rem))
    (hmul : pmul q t = .ok qt) :
    euclidLoop bound (n + 1) rl r tl t steps = euclidLoop bound n r rem t (padd qt tl) (steps + 1) := by
  rw [euclidLoop, if_pos h, if_neg (by simpa [polyIsZero] using hr), hdiv]
  simp only [hmul]

/-- With the bound 0 the loop goes on until the remainder is 0. -/
theorem euclidLoop_bound_zero (ha : polyHeld a) (h : EuclidInv a b rl r tl t) (hn : (if r = [0#8] then 0 else r.length) < n) :
    euclidLoop 0 n rl r tl t steps = .error (raise .rsUndecodable 1) := by
  induction n generalizing rl r tl t steps with
  | zero => exact absurd hn (Nat.not_lt_zero _)
  | succ n ih =>
    by_cases hr : r = [0#8]
    · rw [hr, euclidLoop_zero]
    · obtain ⟨q, rem, qt, hdiv, hmul, hinv, hlt⟩ := h.step ha hr
      rw [euclidLoop_step (Nat.zero_le _) hr hdiv hmul]
      rw [if_neg hr] at hn
      have hrpos := h.r_held.1
      refine ih hinv ?_
      split
      · omega
      · next h0 => exact Nat.lt_of_lt_of_le (hlt.resolve_left h0) (Nat.le_of_lt_succ hn)

/-- The quotient of two polynomials in falling order makes up the difference of their degrees. -/
theorem length_le_quotient (ha : polyHeld a) (hb : polyHeld b) (hb2 : 2 ≤ b.length) (hle : b.length ≤ a.length)
    (h : pdivmod a b = .ok (q, r)) : q ≠ [0#8] ∧ a.length + 1 ≤ q.length + b.length := by
  have ha0 : polyLead a ≠ 0#8 := ha.2.2.resolve_left (by omega)
  have hb0 := ne_zero_of_two_le_length hb2
  have hr : polyCoef r (a.length - 1) = 0#8 := by
    obtain rfl | hlt := (pdivmod_lengths ha hb hb0 h).1
    · exact polyCoef_zero _
    · exact polyCoef_eq_zero (by omega)
  have hprod : conv (polyCoef q) (polyCoef b) (a.length - 1) ≠ 0#8 := by
    rwa [← polyCoef_length_sub_one, pdivmod_identity hb0 h, hr, gadd_zero] at ha0
  refine ⟨?_, Nat.le_of_not_lt fun hlt => hprod ?_⟩
  · rintro rfl
    exact hprod (by rw [funext polyCoef_zero, conv_zero_left])
  · rw [← polyCoef_polyRawMul q hb.1, polyCoef_eq_zero]
    rw [polyRawMul_length q b hb.1]
    omega

/-- A summand without the other's highest coefficient leaves it there. -/
theorem padd_of_lead (ha : polyLead a ≠ 0#8) (hb : polyCoef b (a.length - 1) = 0#8) :
    padd a b ≠ [0#8] ∧ a.length ≤ (padd a b).length := by
  have htop : polyCoef (padd a b) (a.length - 1) ≠ 0#8 := by
    rwa [polyCoef_padd, hb, polyCoef_length_sub_one, gadd, BitVec.xor_zero]
  refine ⟨fun h0 => htop (by rw [h0, polyCoef_zero]), Nat.le_of_not_lt fun hlt => htop (polyCoef_eq_zero ?_)⟩
  omega

theorem polyLead_polyRawMul_ne_zero (hq : polyHeld q) (ht : polyHeld t) (hq0 : q ≠ [0#8]) (ht0 : t ≠ [0#8]) :
    polyLead (polyRawMul q t) ≠ 0#8 := by
  have hqlead := polyLead_ne_zero_of_ne hq hq0
  have htlead := polyLead_ne_zero_of_ne ht ht0
  obtain ⟨c, q, rfl⟩ := List.exists_cons_of_length_pos hq.1
  obtain ⟨d, t, rfl⟩ := List.exists_cons_of_length_pos ht.1
  rw [polyLead_polyRawMul]
  exact gmul_ne_zero hqlead htlead

/-- What the loop keeps besides while the bound is above 0: the factors are not 0 and grow as the remainders fall. -/
structure EuclidGrows (rl r tl t : Poly) : Prop where
  t_ne : t ≠ [0#8]
  tl_le : tl = [0#8] ∨ tl.length ≤ t.length ∧ r.length < rl.length

theorem EuclidGrows.step (g : EuclidGrows rl r tl t) (h : EuclidInv a b rl r tl t) (hr2 : 2 ≤ r.length)
    (hdiv : pdivmod rl r = .ok (q, rem)) (hmul : pmul q t = .ok qt) (hrem : rem.length < r.length) :
    EuclidGrows r rem t (padd qt tl) := by
  obtain ⟨hq0, hqlen⟩ := length_le_quotient h.rl_held h.r_held hr2 h.r_le hdiv
  have hqheld := (polyHeld_pdivmod h.rl_held h.r_held hdiv).1
  obtain rfl : qt = polyRawMul q t := (pmul_eq_ok hmul).resolve_left fun hz => hz.2.elim hq0 g.t_ne
  have hlen := polyRawMul_length q t h.t_held.1
  have hlead := polyLead_polyRawMul_ne_zero hqheld h.t_held hq0 g.t_ne
  have htl : polyCoef tl ((polyRawMul q t).length - 1) = 0#8 := by
    obtain rfl | ⟨htl, hlt⟩ := g.tl_le
    · exact polyCoef_zero _
    · exact polyCoef_eq_zero (by omega)
  obtain ⟨hne, hle⟩ := padd_of_lead hlead htl
  have hqpos := hqheld.1
  exact ⟨hne, .inr ⟨by omega, hrem⟩⟩

/-- A pair the algorithm may end with. -/
structure EuclidSolves (a b : Poly) (bound : Nat) (t r : Poly) : Prop where
  t_held : polyHeld t
  r_held : polyHeld r
  t_ne : t ≠ [0#8]
  r_low : 2 * polyDeg r < bound
  key : keyEquation a b t r
  t_low : t = [1#8] ∨ 2 * polyDeg t + bound ≤ 2 * polyDeg a

/-- With a bound above 0 the loop ends with a solution. -/
theorem euclidLoop_solves (ha : polyHeld a) (h : EuclidInv a b rl r tl t) (g : EuclidGrows rl r tl t) (hbound : 0 < bound)
    (hrl : t = [1#8] ∨ bound ≤ 2 * polyDeg rl) (hn : r.length ≤ n) :
    ∃ t' r' steps', euclidLoop bound n rl r tl t steps = .ok (t', r', steps') ∧ EuclidSolves a b bound t' r' := by
  induction n generalizing rl r tl t steps with
  | zero => exact absurd h.r_held.1 (Nat.not_le.2 (Nat.lt_succ_of_le hn))
  | succ n ih =>
    by_cases hlow : 2 * polyDeg r < bound
    · refine ⟨t, r, steps, euclidLoop_done hlow, h.t_held, h.r_held, g.t_ne, hlow, h.t_key, hrl.imp_right fun hrl => ?_⟩
      have := h.t_len
      have := h.t_held.1
      simp only [polyDeg] at *
      omega
    · rw [Nat.not_lt] at hlow
      have hr2 : 2 ≤ r.length := by
        simp only [polyDeg] at hlow
        omega
      obtain ⟨q, rem, qt, hdiv, hmul, hinv, hlt⟩ := h.step ha (ne_zero_of_two_le_length hr2)
      have hrem : rem.length < r.length := by
        obtain rfl | hlt := hlt
        · exact hr2
        · exact hlt
      rw [euclidLoop_step hlow (ne_zero_of_two_le_length hr2) hdiv hmul]
      exact ih hinv (g.step h hr2 hdiv hmul hrem) (.inr hlow) (Nat.le_of_lt_succ (Nat.lt_of_lt_of_le hrem hn))

end

/-! ### P_EUCLID (R300) -/

section
variable {a b t r : Poly} {bound steps : Nat}

theorem euclidOrdered_bound_zero (ha : polyHeld a) (hb : polyHeld b) (hle : b.length ≤ a.length) :
    euclidOrdered a b 0 = .error (raise .rsUndecodable 1) := by
  have hn : (if b = [0#8] then 0 else b.length) < b.length + 2 := by
    split <;> omega
  rw [euclidOrdered, euclidLoop_bound_zero ha (euclidInv_start ha hb hle) hn]

/-- The answer the algorithm makes of the pair its loop ends with. -/
def euclidAnswer (t r : Poly) (steps : Nat) : Except Raise (Poly × Poly × Nat) :=
  if polyCoef t 0 = 0#8 then .error (raise .rsUndecodable 2)
  else .ok (pscale t (ginv (polyCoef t 0)), pscale r (ginv (polyCoef t 0)), steps)

theorem euclidAnswer_eq_ok {lam omega : Poly} {n : Nat} (h : euclidAnswer t r steps = .ok (lam, omega, n)) :
    polyCoef t 0 ≠ 0#8 ∧ lam = pscale t (ginv (polyCoef t 0)) ∧ omega = pscale r (ginv (polyCoef t 0)) := by
  unfold euclidAnswer at h
  split at h
  · cases h
  · next hc =>
    cases h
    exact ⟨hc, rfl, rfl⟩

theorem euclidOrdered_solves (ha : polyHeld a) (hb : polyHeld b) (hle : b.length ≤ a.length) (hbound : 0 < bound) :
    ∃ t r steps, euclidOrdered a b bound = euclidAnswer t r steps ∧ EuclidSolves a b bound t r := by
  obtain ⟨t, r, steps, hloop, hsol⟩ := euclidLoop_solves (steps := 0) ha (euclidInv_start ha hb hle) ⟨by decide, .inl rfl⟩
    hbound (.inl rfl) (Nat.le_add_right _ 2)
  refine ⟨t, r, steps, ?_, hsol⟩
  rw [euclidOrdered, hloop]
  rfl

theorem polyDeg_pscale_le (p : Poly) (c : Byte) : polyDeg (pscale p c) ≤ polyDeg p := by
  unfold pscale
  split
  · exact Nat.zero_le _
  · exact Nat.sub_le_sub_right (Nat.le_trans (polyNorm_length_le _) (Nat.le_of_eq (List.length_map _))) 1

/-- The operand of larger degree goes ahead (R300). -/
theorem euclid_orders {x y : Poly} (bound : Nat) (hx : polyHeld x) (hy : polyHeld y) :
    let swap := decide (polyDeg x < polyDeg y)
    let a := if swap then y else x
    let b := if swap then x else y
    polyHeld a ∧ polyHeld b ∧ b.length ≤ a.length ∧ euclid x y bound = euclidOrdered a b bound := by
  have hxpos := hx.1
  by_cases h : polyDeg x < polyDeg y
  · simp only [h, decide_true, if_true]
    refine ⟨hy, hx, ?_, if_pos h⟩
    simp only [polyDeg] at h
    omega
  · simp only [h, decide_false, Bool.false_eq_true, if_false]
    refine ⟨hx, hy, ?_, if_neg h⟩
    simp only [polyDeg] at h
    omega

/-- A solution scaled to the constant term 1 (R301). -/
theorem EuclidSolves.scaled (h : EuclidSolves a b bound t r) (hc : polyCoef t 0 ≠ 0#8) :
    let lam := pscale t (ginv (polyCoef t 0))
    let omega := pscale r (ginv (polyCoef t 0))
    polyCoef lam 0 = 1#8 ∧ 2 * polyDeg omega < bound ∧ keyEquation a b lam omega ∧
      (lam = [1#8] ∨ 2 * polyDeg lam + bound ≤ 2 * polyDeg a) := by
  intro lam omega
  have hlam : polyDeg lam ≤ polyDeg t := polyDeg_pscale_le t _
  have homega : polyDeg omega ≤ polyDeg r := polyDeg_pscale_le r _
  refine ⟨?_, Nat.lt_of_le_of_lt (Nat.mul_le_mul_left 2 homega) h.r_low, keyEquation_pscale h.key _, ?_⟩
  · rw [polyCoef_pscale, gmul_ginv hc]
  · obtain rfl | hlow := h.t_low
    · exact .inl rfl
    · exact .inr (by omega)

end

section
variable {s : State} {rd rd2 rs1 rs2 : PReg}

theorem execPEuclid_of_ok {lam omega : Poly} {steps : Nat}
    (h : euclid (s.getPoly rs1) (s.getPoly rs2) (s.argv 0) = .ok (lam, omega, steps)) :
    exec (.pEuclid rd rd2 rs1 rs2) s =
      .next ((((s.setPoly rd lam).setPoly rd2 omega).setResNat 0 (lam.length - 1)).setResNat 1 steps).successEnd := by
  rw [exec, execPEuclid, h, andThen_ok, State.finish_ok, polyDeg]

theorem execPEuclid_of_error {e : Raise} (h : euclid (s.getPoly rs1) (s.getPoly rs2) (s.argv 0) = .error e) :
    exec (.pEuclid rd rd2 rs1 rs2) s = .next (s.errorEnd e) := by
  rw [exec, execPEuclid, h, andThen_error, State.finish_error]

end

/-- Settles O34: the loop ends with a solution, and its constant term is 0 or is scaled to 1. -/
theorem polyEuclid : Obligations.PolyEuclid := by
  intro s rd rd2 rs1 rs2 _ h1 h2 swap a b
  obtain ⟨ha, hb, hle, hrun⟩ := euclid_orders (s.argv 0) h1 h2
  have hzero (h0 : s.argv 0 = 0) : euclid (s.getPoly rs1) (s.getPoly rs2) (s.argv 0) = .error (raise .rsUndecodable 1) := by
    rw [hrun, h0, euclidOrdered_bound_zero ha hb hle]
  refine ⟨fun lam omega steps hok => ⟨execPEuclid_of_ok hok, ?_⟩, fun h0 => execPEuclid_of_error (hzero h0), fun h0 => ?_⟩
  · have hpos : 0 < s.argv 0 := Nat.pos_of_ne_zero fun h0 => by simp [hzero h0] at hok
    obtain ⟨hlam, homega⟩ := polyHeld_euclid h1 h2 hok
    obtain ⟨t, r, _, hans, hsol⟩ := euclidOrdered_solves ha hb hle hpos
    obtain ⟨hc, rfl, rfl⟩ := euclidAnswer_eq_ok (hans.symm.trans (hrun.symm.trans hok))
    exact ⟨hlam, homega, hsol.scaled hc⟩
  · obtain ⟨t, r, steps, hans, hsol⟩ := euclidOrdered_solves ha hb hle (Nat.pos_of_ne_zero h0)
    have hans := hrun.trans hans
    by_cases hc : polyCoef t 0 = 0#8
    · have ht : t ≠ [1#8] := by
        rintro rfl
        exact absurd hc (by decide)
      exact .inr ⟨execPEuclid_of_error (hans.trans (if_pos hc)), t, r, hsol.t_held, hsol.t_ne, hsol.r_held, hc, hsol.r_low,
        hsol.key, hsol.t_low.resolve_left ht⟩
    · exact .inl ⟨_, _, _, hans.trans (if_neg hc)⟩

end Sys2Proof.Machine
end

section
/-! PROOFS of the statements on RS_ENCODE and RS_SYNDROME (45_rs.md R332, R334, R335): data and parity are a multiple of the
generator, and so is their value at its roots. -/

namespace Sys2Proof.Machine

/-! ### RS_ENCODE (45_rs.md R334) -/

/-- Each of the first `k` powers of α is a root of the word: every syndrome is 0 (R332). -/
abbrev IsCodeword (c : List Byte) (k : Nat) : Prop := ∀ i, i < k → peval c (gexp i) = 0#8

section
variable {s : State} {d p r : List Byte} {k : Nat}

theorem pgen_ne_zero (hk : k ≠ 0) : pgen k ≠ [0#8] := ne_zero_of_two_le_length (by rw [pgen_length]; omega)

/-- The `n` lowest coefficients of a sequence, the highest degree first. -/
def lowBytes (f : Nat → Byte) (n : Nat) : List Byte := (List.range n).map fun i => f (n - 1 - i)

theorem lowBytes_length (f : Nat → Byte) (n : Nat) : (lowBytes f n).length = n := by simp [lowBytes]

/-- They are all the coefficients of a sequence that has no others. -/
theorem polyCoef_lowBytes {f : Nat → Byte} {n : Nat} (hf : ∀ i, n ≤ i → f i = 0#8) (e : Nat) :
    polyCoef (lowBytes f n) e = f e := by
  by_cases he : e < n
  · have hback : n - 1 - (n - 1 - e) = e := by omega
    simp [lowBytes, polyCoef, List.getD_eq_getElem?_getD, he, hback]
  · have he := Nat.le_of_not_lt he
    rw [hf e he, polyCoef_eq_zero (by rwa [lowBytes_length])]

/-- The parity is the remainder of the division by the generator (R334). -/
theorem rsEncode_eq_remainder (hk0 : k ≠ 0) (hk : d.length + k ≤ Config.nMax) :
    ∃ q r, pdivmod (polyNorm (d ++ zeroBytes k)) (pgen k) = .ok (q, r) ∧ (∀ i, k ≤ i → polyCoef r i = 0#8) ∧
      rsEncode d k = .ok (lowBytes (polyCoef r) k) := by
  have hlen : (d ++ zeroBytes k).length = d.length + k := by simp [zeroBytes]
  have hmax : Config.nMax = 255 ∧ Config.polyLenMax = 256 := ⟨rfl, rfl⟩
  have hm : polyHeld (polyNorm (d ++ zeroBytes k)) := polyHeld_polyNorm (by omega) (by omega)
  have hgen := pgen_ne_zero hk0
  obtain ⟨⟨q, r⟩, hdiv⟩ : ∃ x, pdivmod (polyNorm (d ++ zeroBytes k)) (pgen k) = .ok x := ⟨_, pdivmod_eq _ hgen⟩
  refine ⟨q, r, hdiv, fun i hi => ?_, ?_⟩
  · obtain rfl | hr := (pdivmod_lengths hm (polyHeld_pgen (by omega)) hgen hdiv).1
    · exact polyCoef_zero i
    · rw [pgen_length] at hr
      exact polyCoef_eq_zero (by omega)
  · rw [rsEncode, if_neg hk0, hdiv, lowBytes]

/-- Data and parity are a multiple of the generator (R334). -/
theorem rsEncode_makes_codeword (hk : d.length + k ≤ Config.nMax) :
    ∃ p, rsEncode d k = .ok p ∧ p.length = k ∧ IsCodeword (d ++ p) k := by
  by_cases hk0 : k = 0
  · subst hk0
    exact ⟨[], rfl, rfl, fun i hi => absurd hi (Nat.not_lt_zero i)⟩
  obtain ⟨q, r, hdiv, hlow, hrun⟩ := rsEncode_eq_remainder hk0 hk
  have hcoef (e : Nat) : polyCoef (d ++ lowBytes (polyCoef r) k) e =
      gadd (polyCoef (polyNorm (d ++ zeroBytes k)) e) (polyCoef r e) := by
    rw [polyCoef_polyNorm, polyCoef_append, polyCoef_append, polyCoef_lowBytes hlow, polyCoef_zeroBytes, lowBytes_length,
      zeroBytes, List.length_replicate]
    split
    · rw [zero_gadd]
    · next he => rw [hlow e (Nat.le_of_not_lt he), gadd_zero]
  refine ⟨_, hrun, lowBytes_length _ k, fun i hi => ?_⟩
  rw [peval_gadd_of_polyCoef hcoef, peval_pdivmod (by rw [pgen_length]; omega) (pgen_ne_zero hk0) hdiv, peval_pgen_gexp hi,
    gmul_zero, zero_gadd, gadd_self]

theorem execRsEncode_of_ok (h2 : s.argv 2 ≤ Config.kMax) (h1 : s.argv 1 + s.argv 2 ≤ Config.nMax)
    (hsrc : s.argv 0 + s.argv 1 ≤ Config.dramBytes) (hdst : s.argv 3 + s.argv 2 ≤ Config.dramBytes)
    (h : rsEncode (s.memRead (s.argv 0) (s.argv 1)) (s.argv 2) = .ok p) :
    exec .rsEncode s = .next ((s.memWrite (s.argv 3) p).setRes 0 s.arg[2]).successEnd := by
  have hres : BitVec.ofNat 32 (s.argv 2) = s.arg[2] := (BitVec.ofNat_toNat _ _).trans (BitVec.setWidth_eq _)
  rw [exec, execRsEncode, State.requireArg_pos (Nat.zero_le _) h2, require_of_true (decide_eq_true h1),
    State.requireRange_pos hsrc, State.requireRange_pos hdst, h, andThen_ok, State.finish_ok, State.setResNat, hres]

theorem rsEncode_reportsErrors : s.reportsErrors .rsEncode :=
  State.reportsErrors_of_reports rfl <|
    .requireArg (and_iff_right (Nat.zero_le _)) fun _ => .require decide_eq_true_iff fun _ =>
      .require decide_eq_true_iff fun _ => .requireRange_last

end

/-- Settles O35: data and parity are a multiple of the generator, and the checks stand in the table's order. -/
theorem rsEncodeMakesCodeword : Obligations.RsEncodeMakesCodeword := by
  intro s
  refine ⟨fun h2 h1 hsrc hdst => ?_, rsEncode_reportsErrors⟩
  obtain ⟨p, hp, hlen, hcode⟩ := rsEncode_makes_codeword (d := s.memRead (s.argv 0) (s.argv 1)) (by rwa [State.memRead_length])
  exact ⟨p, hlen, execRsEncode_of_ok h2 h1 hsrc hdst hp, hcode⟩

/-! ### RS_SYNDROME (45_rs.md R335) -/

section
variable {s : State} {c : List Byte} {k : Nat}

theorem rsSyndromes_getElem {i : Nat} (h : i < (rsSyndromes c k).length) : (rsSyndromes c k)[i] = peval c (gexp i) := by
  simp [rsSyndromes]

theorem ofNat_toNat_bool (b : Bool) : BitVec.ofNat 32 b.toNat = if b = true then 1#32 else 0#32 := by cases b <;> rfl

theorem rsSyndromes_any : (rsSyndromes c k).any (· != 0#8) = true ↔ ∃ i, i < k ∧ peval c (gexp i) ≠ 0#8 := by
  simp [rsSyndromes]

theorem rsSyndromes_all : (rsSyndromes c k).all (· == 0#8) = true ↔ IsCodeword c k := by
  simp [rsSyndromes]

theorem execRsSyndrome_of_checks (h1 : 1 ≤ s.argv 1) (h1' : s.argv 1 ≤ Config.nMax) (h2 : s.argv 2 ≤ Config.kMax)
    (hsrc : s.argv 0 + s.argv 1 ≤ Config.dramBytes) (hdst : s.argv 3 + s.argv 2 ≤ Config.dramBytes) :
    exec .rsSyndrome s =
      .next ((s.memWrite (s.argv 3) (rsSyndromes (s.memRead (s.argv 0) (s.argv 1)) (s.argv 2))).setResNat 0
        ((rsSyndromes (s.memRead (s.argv 0) (s.argv 1)) (s.argv 2)).any (· != 0#8)).toNat).successEnd := by
  rw [exec, execRsSyndrome, State.requireArg_pos h1 h1', State.requireArg_pos (Nat.zero_le _) h2, State.requireRange_pos hsrc,
    State.requireRange_pos hdst, State.finish_ok]

theorem rsSyndrome_reportsErrors : s.reportsErrors .rsSyndrome :=
  State.reportsErrors_of_reports rfl <|
    .requireArg .rfl fun _ => .requireArg (and_iff_right (Nat.zero_le _)) fun _ => .require decide_eq_true_iff fun _ =>
      .requireRange_last

end

/-- Settles O36: the bytes written are the syndromes, and the checks stand in the table's order. -/
theorem rsSyndromeResult : Obligations.RsSyndromeResult := by
  intro s
  refine ⟨fun h1 h1' h2 hsrc hdst => ⟨_, execRsSyndrome_of_checks h1 h1' h2 hsrc hdst, rfl, fun i hi => ?_, fun a ha => ?_, ?_⟩,
    rsSyndrome_reportsErrors⟩
  · rw [← rsSyndromes_length (s.memRead (s.argv 0) (s.argv 1)) (s.argv 2)] at hi
    exact (Memory.read_write_of_inside s.dram (s.argv 3) _ i hi).trans (rsSyndromes_getElem hi)
  · exact Memory.read_write_of_outside s.dram (s.argv 3) _ a (by rwa [rsSyndromes_length])
  · simp only [← rsSyndromes_any]
    exact (State.res0_setResNat _).trans (ofNat_toNat_bool _)

end Sys2Proof.Machine
end

section
/-! PROOFS: the cofactors of Euclid's algorithm (44_poly.md R300). The loop keeps, with its two solutions of the key equation,
their cofactors; these make up a determinant 1, so a solution within the bounds on the degrees is a multiple of the pair the
loop ends with. All computing is on coefficient sequences, a ring under `gadd` and `conv`. -/

namespace Sys2Proof.Machine

/-! ### The ring of coefficient sequences -/

section
variable (f f' g g' h : Nat → Byte) (d : Nat)

theorem gadd_comm (a b : Byte) : gadd a b = gadd b a := BitVec.xor_comm a b

theorem eq_of_gadd_eq_zero {a b : Byte} (h : gadd a b = 0#8) : a = b := BitVec.xor_eq_zero_iff.1 h

/-- The recursion on the second factor. -/
theorem conv_succ_right : conv f g (d + 1) = gadd (conv f (fun i => g (i + 1)) d) (gmul (f (d + 1)) (g 0)) := by
  induction d generalizing f with
  | zero => rfl
  | succ d ih => rw [conv_succ, ih, conv_succ f, gadd_assoc]

theorem conv_comm : conv f g d = conv g f d := by
  induction d generalizing f g with
  | zero => exact gmul_comm _ _
  | succ d ih => rw [conv_succ, conv_succ_right, ih, gmul_comm, gadd_comm]

/-- The sum of two coefficient sequences. -/
def gaddSeq : Nat → Byte := fun d => gadd (f d) (g d)

theorem conv_gaddSeq_left : conv (gaddSeq f f') g = gaddSeq (conv f g) (conv f' g) := funext (conv_gadd_left f f' g)

theorem conv_gaddSeq_right : conv f (gaddSeq g g') = gaddSeq (conv f g) (conv f g') := funext (conv_gadd_right f g g')

theorem conv_isAssociative : Std.Associative conv := ⟨fun f g h => funext (conv_assoc f g h)⟩

theorem conv_isCommutative : Std.Commutative conv := ⟨fun f g => funext (conv_comm f g)⟩

theorem gaddSeq_isAssociative : Std.Associative gaddSeq := ⟨fun f g h => funext fun d => gadd_assoc (f d) (g d) (h d)⟩

theorem gaddSeq_isCommutative : Std.Commutative gaddSeq := ⟨fun f g => funext fun d => gadd_comm (f d) (g d)⟩

theorem gaddSeq_cancel_left : gaddSeq f (gaddSeq f g) = g := funext fun d => gadd_gadd_cancel (f d) (g d)

theorem conv_one : conv (polyCoef [1#8]) g = g := funext (conv_one_left g)

theorem conv_left_comm : conv f (conv g h) = conv g (conv f h) := by
  have := conv_isAssociative
  have := conv_isCommutative
  ac_rfl

/-- Only coefficients of lower degree count. -/
theorem conv_congr {f f' g g' : Nat → Byte} {d : Nat} (hf : ∀ i, i ≤ d → f i = f' i) (hg : ∀ i, i ≤ d → g i = g' i) :
    conv f g d = conv f' g' d := by
  induction d generalizing f f' with
  | zero => rw [conv, conv, hf 0 (Nat.le_refl 0), hg 0 (Nat.le_refl 0)]
  | succ d ih =>
    rw [conv_succ, conv_succ, hf 0 (Nat.zero_le _), hg _ (Nat.le_refl _),
      ih (fun i hi => hf (i + 1) (Nat.succ_le_succ hi)) fun i hi => hg i (Nat.le_succ_of_le hi)]

end

section
variable {a b p q t qt rl r rem : Poly}

theorem polyCoef_padd_seq (a b : Poly) : polyCoef (padd a b) = gaddSeq (polyCoef a) (polyCoef b) := funext (polyCoef_padd a b)

theorem polyCoef_polyRawMul_seq (a : Poly) {b : Poly} (hb : 1 ≤ b.length) :
    polyCoef (polyRawMul a b) = conv (polyCoef a) (polyCoef b) := funext (polyCoef_polyRawMul a hb)

theorem polyCoef_pmul_seq (ht : 1 ≤ t.length) (h : pmul q t = .ok qt) : polyCoef qt = conv (polyCoef q) (polyCoef t) :=
  funext (polyCoef_pmul ht h)

theorem pdivmod_seq (hr : r ≠ [0#8]) (h : pdivmod rl r = .ok (q, rem)) :
    polyCoef rl = gaddSeq (conv (polyCoef q) (polyCoef r)) (polyCoef rem) := funext (pdivmod_identity hr h)

/-- A product has no coefficient from the sum of the degrees on. -/
theorem conv_eq_zero {d : Nat} (hq : 1 ≤ q.length) (h : p.length + q.length ≤ d + 1) :
    conv (polyCoef p) (polyCoef q) d = 0#8 := by
  rw [← polyCoef_polyRawMul p hq, polyCoef_eq_zero]
  rw [polyRawMul_length p q hq]
  omega

/-- The product by `x^n` shifts. -/
theorem conv_pmono_one (n : Nat) (g : Nat → Byte) (d : Nat) :
    conv (polyCoef (pmono n 1#8)) g d = if n ≤ d then g (d - n) else 0#8 := by
  rw [funext (polyCoef_pmono n 1#8), conv_monomial, one_gmul]

end

/-! ### The cofactors of the loop (44_poly.md R300) -/

section
variable {a b rl r tl t q rem qt : Poly} {bound n steps : Nat}

/-- The pair `(t, r)` solves the key equation with the cofactor `u` (R301). -/
def SolvesWith (a b t r u : Poly) : Prop :=
  conv (polyCoef t) (polyCoef b) = gaddSeq (polyCoef r) (conv (polyCoef u) (polyCoef a))

/-- The determinant of two solutions and their cofactors is 1. -/
def UnitDeterminant (tl t ul u : Poly) : Prop :=
  gaddSeq (conv (polyCoef t) (polyCoef ul)) (conv (polyCoef tl) (polyCoef u)) = polyCoef [1#8]

/-- Both pairs the loop holds solve the key equation, with cofactors that make up a determinant 1. -/
def Bezout (a b rl r tl t : Poly) : Prop :=
  ∃ ul u : Poly, SolvesWith a b tl rl ul ∧ SolvesWith a b t r u ∧ UnitDeterminant tl t ul u

theorem gaddSeq_zero (f : Nat → Byte) : gaddSeq f (fun _ => 0#8) = f := funext fun d => gadd_zero (f d)

theorem bezout_start (a b : Poly) : Bezout a b a b [0#8] [1#8] := by
  have hzero : polyCoef [0#8] = fun _ => 0#8 := funext polyCoef_zero
  have hconv (g : Nat → Byte) : conv (polyCoef [0#8]) g = fun _ => 0#8 := by rw [hzero]; exact funext (conv_zero_left g)
  refine ⟨[1#8], [0#8], ?_, ?_, ?_⟩
  · rw [SolvesWith, hconv, conv_one]
    exact funext fun d => (gadd_self _).symm
  · rw [SolvesWith, hconv, conv_one, gaddSeq_zero]
  · rw [UnitDeterminant, hconv, conv_one, gaddSeq_zero]

/-- A division step takes two solutions to a third. -/
theorem SolvesWith.step {ul u w : Poly} (hl : SolvesWith a b tl rl ul) (h : SolvesWith a b t r u)
    (hrl : polyCoef rl = gaddSeq (conv (polyCoef q) (polyCoef r)) (polyCoef rem))
    (hqt : polyCoef qt = conv (polyCoef q) (polyCoef t)) (hw : polyCoef w = conv (polyCoef q) (polyCoef u)) :
    SolvesWith a b (padd qt tl) rem (padd w ul) := by
  have := conv_isAssociative
  have := gaddSeq_isAssociative
  have := gaddSeq_isCommutative
  have hq : conv (polyCoef qt) (polyCoef b) =
      gaddSeq (conv (polyCoef q) (polyCoef r)) (conv (polyCoef w) (polyCoef a)) := by
    have hassoc : conv (conv (polyCoef q) (polyCoef t)) (polyCoef b) = conv (polyCoef q) (conv (polyCoef t) (polyCoef b)) := by
      ac_rfl
    rw [hqt, hw, hassoc, h, conv_gaddSeq_right]
    ac_rfl
  rw [SolvesWith, polyCoef_padd_seq, polyCoef_padd_seq, conv_gaddSeq_left, conv_gaddSeq_left, hq, hl, hrl]
  calc _ = gaddSeq (conv (polyCoef q) (polyCoef r)) (gaddSeq (conv (polyCoef q) (polyCoef r)) (gaddSeq (polyCoef rem)
          (gaddSeq (conv (polyCoef w) (polyCoef a)) (conv (polyCoef ul) (polyCoef a))))) := by ac_rfl
    _ = _ := gaddSeq_cancel_left _ _

theorem UnitDeterminant.step {ul u w : Poly} (h : UnitDeterminant tl t ul u)
    (hqt : polyCoef qt = conv (polyCoef q) (polyCoef t)) (hw : polyCoef w = conv (polyCoef q) (polyCoef u)) :
    UnitDeterminant t (padd qt tl) u (padd w ul) := by
  have := conv_isAssociative
  have := conv_isCommutative
  have := gaddSeq_isAssociative
  have := gaddSeq_isCommutative
  have hcross : conv (polyCoef qt) (polyCoef u) = conv (polyCoef t) (polyCoef w) := by
    rw [hqt, hw]
    ac_rfl
  rw [UnitDeterminant, polyCoef_padd_seq, polyCoef_padd_seq, conv_gaddSeq_left, conv_gaddSeq_right, hcross, ← h]
  calc _ = gaddSeq (conv (polyCoef t) (polyCoef w)) (gaddSeq (conv (polyCoef t) (polyCoef w))
          (gaddSeq (conv (polyCoef t) (polyCoef ul)) (conv (polyCoef tl) (polyCoef u)))) := by ac_rfl
    _ = _ := gaddSeq_cancel_left _ _

theorem Bezout.step (h : Bezout a b rl r tl t) (hr : r ≠ [0#8]) (ht : 1 ≤ t.length) (hdiv : pdivmod rl r = .ok (q, rem))
    (hmul : pmul q t = .ok qt) : Bezout a b r rem t (padd qt tl) := by
  obtain ⟨ul, u, hl, hs, hdet⟩ := h
  obtain ⟨w, hw⟩ := exists_polyCoef_eq_conv q u
  have hqt := polyCoef_pmul_seq ht hmul
  exact ⟨u, padd w ul, hs, hl.step hs (pdivmod_seq hr hdiv) hqt hw, hdet.step hqt hw⟩

/-- The pair the loop ends with comes with a cofactor, and another pair that makes up a determinant 1 with it. -/
theorem euclidLoop_bezout {steps' : Nat} {t' r' : Poly} (h : Bezout a b rl r tl t) (inv : EuclidInv a b rl r tl t)
    (ha : polyHeld a) (hloop : euclidLoop bound n rl r tl t steps = .ok (t', r', steps')) :
    ∃ rl' tl', Bezout a b rl' r' tl' t' := by
  induction n generalizing rl r tl t steps with
  | zero =>
    cases hloop
    exact ⟨_, _, h⟩
  | succ n ih =>
    obtain hlow | hlow := Nat.lt_or_ge (2 * polyDeg r) bound
    · rw [euclidLoop_done hlow] at hloop
      cases hloop
      exact ⟨_, _, h⟩
    · by_cases hr : r = [0#8]
      · rw [euclidLoop, if_pos hlow, if_pos (show polyIsZero r = true from beq_iff_eq.2 hr)] at hloop
        cases hloop
      · obtain ⟨q, rem, qt, hdiv, hmul, hinv, -⟩ := inv.step ha hr
        rw [euclidLoop_step hlow hr hdiv hmul] at hloop
        exact ih (h.step hr inv.t_held.1 hdiv hmul) hinv hloop

/-- With a bound above 0 the algorithm ends with a solution of the loop (R300). -/
theorem euclidOrdered_bezout (ha : polyHeld a) (hb : polyHeld b) (hle : b.length ≤ a.length) (hbound : 0 < bound) :
    ∃ t r steps, euclidOrdered a b bound = euclidAnswer t r steps ∧ EuclidSolves a b bound t r ∧
      ∃ rl tl, Bezout a b rl r tl t := by
  have hinv := euclidInv_start ha hb hle
  obtain ⟨t, r, steps, hloop, hsol⟩ := euclidLoop_solves (steps := 0) ha hinv ⟨by decide, .inl rfl⟩ hbound (.inl rfl)
    (Nat.le_add_right _ 2)
  refine ⟨t, r, steps, ?_, hsol, euclidLoop_bezout (bezout_start a b) hinv ha hloop⟩
  rw [euclidOrdered, hloop]
  rfl

end

/-! ### Solutions within the bounds on the degrees -/

section
variable {b t r tl ul u lam omega v rl : Poly} {k : Nat}

/-- Two solutions modulo `x^k` whose cross products have degrees below `k` have the same ratio, and so have their cofactors. -/
theorem cross_products (ht : SolvesWith (pmono k 1#8) b t r u) (hlam : SolvesWith (pmono k 1#8) b lam omega v)
    (hlow : ∀ d, k ≤ d → conv (polyCoef omega) (polyCoef t) d = 0#8)
    (hlow' : ∀ d, k ≤ d → conv (polyCoef lam) (polyCoef r) d = 0#8) :
    conv (polyCoef omega) (polyCoef t) = conv (polyCoef lam) (polyCoef r) ∧
      conv (polyCoef v) (polyCoef t) = conv (polyCoef lam) (polyCoef u) := by
  have hshift (x y : Poly) : conv (polyCoef x) (conv (polyCoef y) (polyCoef (pmono k 1#8))) =
      conv (polyCoef (pmono k 1#8)) (conv (polyCoef y) (polyCoef x)) := by
    have := conv_isAssociative
    have := conv_isCommutative
    ac_rfl
  have hcomm (x y : Poly) : conv (polyCoef x) (polyCoef y) = conv (polyCoef y) (polyCoef x) := funext (conv_comm _ _)
  have hall : gaddSeq (conv (polyCoef lam) (polyCoef r)) (conv (polyCoef (pmono k 1#8)) (conv (polyCoef lam) (polyCoef u))) =
      gaddSeq (conv (polyCoef omega) (polyCoef t)) (conv (polyCoef (pmono k 1#8)) (conv (polyCoef v) (polyCoef t))) := by
    have hboth := conv_left_comm (polyCoef lam) (polyCoef t) (polyCoef b)
    rwa [ht, hlam, conv_gaddSeq_right, conv_gaddSeq_right, hshift, hshift, hcomm t omega, hcomm u lam] at hboth
  have hcoef (d : Nat) :
      gadd (conv (polyCoef lam) (polyCoef r) d) (if k ≤ d then conv (polyCoef lam) (polyCoef u) (d - k) else 0#8) =
        gadd (conv (polyCoef omega) (polyCoef t) d) (if k ≤ d then conv (polyCoef v) (polyCoef t) (d - k) else 0#8) := by
    rw [← conv_pmono_one, ← conv_pmono_one]
    exact congrFun hall d
  constructor
  · funext d
    obtain hd | hd := Nat.lt_or_ge d k
    · have h := hcoef d
      rwa [if_neg (Nat.not_le.2 hd), if_neg (Nat.not_le.2 hd), gadd_zero, gadd_zero, eq_comm] at h
    · rw [hlow d hd, hlow' d hd]
  · funext d
    have hd : k ≤ d + k := Nat.le_add_left k d
    have h := hcoef (d + k)
    rwa [if_pos hd, if_pos hd, hlow _ hd, hlow' _ hd, zero_gadd, zero_gadd, Nat.add_sub_cancel, eq_comm] at h

/-- Below `x^k` a solution is the product itself. -/
theorem SolvesWith.coef_lt (h : SolvesWith (pmono k 1#8) b t r u) {d : Nat} (hd : d < k) :
    conv (polyCoef t) (polyCoef b) d = polyCoef r d := by
  rw [h, gaddSeq, conv_comm (polyCoef u), conv_pmono_one, if_neg (Nat.not_le.2 hd), gadd_zero]

/-- A solution with the cofactor in the ratio of the other's is a multiple of it, the determinant being 1. -/
theorem exists_multiple (hdet : UnitDeterminant tl t ul u)
    (hv : conv (polyCoef v) (polyCoef t) = conv (polyCoef lam) (polyCoef u)) :
    ∃ m : Poly, conv (polyCoef m) (polyCoef t) = polyCoef lam := by
  obtain ⟨m₁, hm₁⟩ := exists_polyCoef_eq_conv lam ul
  obtain ⟨m₂, hm₂⟩ := exists_polyCoef_eq_conv v tl
  have := conv_isAssociative
  have := conv_isCommutative
  have hfirst : conv (conv (polyCoef lam) (polyCoef ul)) (polyCoef t) =
      conv (polyCoef lam) (conv (polyCoef t) (polyCoef ul)) := by ac_rfl
  have hsecond : conv (conv (polyCoef v) (polyCoef tl)) (polyCoef t) =
      conv (polyCoef lam) (conv (polyCoef tl) (polyCoef u)) := by
    calc _ = conv (conv (polyCoef v) (polyCoef t)) (polyCoef tl) := by ac_rfl
      _ = _ := by
        rw [hv]
        ac_rfl
  refine ⟨padd m₁ m₂, ?_⟩
  rw [polyCoef_padd_seq, conv_gaddSeq_left, hm₁, hm₂, hfirst, hsecond, ← conv_gaddSeq_right, hdet,
    funext (conv_comm _ _), conv_one]

/-- A multiple of no higher degree is a multiple by a constant. -/
theorem multiple_is_constant {m : Poly} (hm : conv (polyCoef m) (polyCoef t) = polyCoef lam) (ht : polyHeld t) (h0 : t ≠ [0#8])
    (hlen : lam.length ≤ t.length) : ∃ c, ∀ d, gmul c (polyCoef t d) = polyCoef lam d := by
  have hnorm : polyCoef (polyNorm (0#8 :: m)) = polyCoef m := by
    rw [funext (polyCoef_polyNorm _)]
    exact funext (polyCoef_zeroBytes_append 1 m)
  obtain ⟨hpos, hlead⟩ := polyNorm_normal (0#8 :: m) (List.cons_ne_nil _ _)
  rw [← hnorm] at hm
  generalize polyNorm (0#8 :: m) = p at hpos hlead hm
  have hone : p.length = 1 := by
    refine Decidable.byContradiction fun hne => ?_
    have hlead := hlead.resolve_left hne
    have htlead := polyLead_ne_zero_of_ne ht h0
    obtain ⟨x, p, rfl⟩ := List.exists_cons_of_length_pos hpos
    obtain ⟨y, t, rfl⟩ := List.exists_cons_of_length_pos ht.1
    refine gmul_ne_zero hlead htlead ?_
    have htop := polyCoef_length_sub_one (polyRawMul (x :: p) (y :: t))
    rw [polyLead_polyRawMul, polyCoef_polyRawMul_seq _ ht.1, hm, polyRawMul_length _ _ ht.1, polyCoef_eq_zero] at htop
    · exact htop.symm
    · simp only [List.length_cons] at *
      omega
  obtain ⟨c, rfl⟩ := List.length_eq_one_iff.1 hone
  refine ⟨c, fun d => ?_⟩
  rw [← hm, ← polyCoef_polyRawMul [c] ht.1, polyCoef_polyRawMul_cons c [] ht.1, polyCoef_polyShift, polyRawMul,
    polyCoef_zeroBytes, gadd_zero, List.length_nil, if_pos (Nat.zero_le d), Nat.sub_zero, gmul_comm]

end

end Sys2Proof.Machine
end

section
/-! PROOFS: the error locator and the error evaluator (45_rs.md R331, R336). For a list of roots with an error value each, they
solve the key equation for the syndromes, and the magnitude at a root is its error value. -/

namespace Sys2Proof.Machine

/-! ### Roots (44_poly.md R297, R298) -/

section
variable {a p : Poly} {b x : Byte} {l : List Byte}

theorem eq_zero_of_gmul {a b : Byte} (ha : a ≠ 0#8) (h : gmul a b = 0#8) : b = 0#8 :=
  Decidable.byContradiction fun hb => gmul_ne_zero ha hb h

theorem peval_congr (h : ∀ d, polyCoef p d = polyCoef a d) (x : Byte) : peval p x = peval a x :=
  (peval_gadd_of_polyCoef (b := []) (fun d => by rw [h, polyCoef_nil, gadd_zero]) x).trans (gadd_zero _)

theorem peval_linear (e x : Byte) : peval [e, 1#8] x = gadd 1#8 (gmul e x) := by
  simp only [peval, List.foldl_cons, List.foldl_nil, zero_gmul, zero_gadd, gadd_comm 1#8]

theorem eq_zero_of_polyCoef (hp : polyHeld p) (h : ∀ d, polyCoef p d = 0#8) : p = [0#8] := by
  have hpos := hp.1
  exact (eq_zero_or_length_le (n := 0) hp fun d _ => h d).resolve_right (by omega)

/-- A root splits off a factor `x + b`. -/
theorem exists_factor (hp : polyHeld p) (h0 : p ≠ [0#8]) (hb : peval p b = 0#8) :
    ∃ q, polyHeld q ∧ q ≠ [0#8] ∧ q.length + 1 ≤ p.length ∧ ∀ x, peval p x = gmul (peval q x) (gadd x b) := by
  have hlin : polyHeld [1#8, b] := ⟨by simp, by simp [Config.polyLenMax], .inr (by simp [polyLead])⟩
  have hlin0 : [1#8, b] ≠ [0#8] := by simp
  have heval (x : Byte) : peval [1#8, b] x = gadd x b := by
    simp only [peval, List.foldl_cons, List.foldl_nil, zero_gmul, zero_gadd, one_gmul]
  obtain ⟨⟨q, r⟩, hdiv⟩ : ∃ y, pdivmod p [1#8, b] = .ok y := ⟨_, pdivmod_eq p hlin0⟩
  obtain ⟨hq, hr⟩ := polyHeld_pdivmod hp hlin hdiv
  obtain ⟨hrlen, hqlen⟩ := pdivmod_lengths hp hlin hlin0 hdiv
  have hval := peval_pdivmod hlin.1 hlin0 hdiv
  have hr0 : r = [0#8] := by
    refine hrlen.elim id fun hlt => ?_
    have hone : r.length = 1 := Nat.le_antisymm (Nat.le_of_lt_succ hlt) hr.1
    obtain ⟨e, rfl⟩ := List.length_eq_one_iff.1 hone
    have hb' := hval b
    rw [hb, heval, gadd_self, gmul_zero, zero_gadd] at hb'
    simpa [peval, gadd] using hb'.symm
  have hq0 : q ≠ [0#8] := by
    rintro rfl
    refine h0 (eq_zero_of_polyCoef hp fun d => ?_)
    rw [pdivmod_identity hlin0 hdiv, hr0, funext polyCoef_zero, conv_zero_left, gadd_self]
  refine ⟨q, hq, hq0, ?_, fun x => ?_⟩
  · have := hqlen.resolve_left hq0
    simp only [List.length_cons, List.length_nil] at this
    omega
  · rw [hval, hr0, peval_zero, gadd_zero, heval]

/-- A polynomial has fewer roots than coefficients. -/
theorem roots_length_lt (hp : polyHeld p) (h0 : p ≠ [0#8]) (hl : l.Nodup) (h : ∀ b, b ∈ l → peval p b = 0#8) :
    l.length < p.length := by
  induction l generalizing p with
  | nil => exact hp.1
  | cons b l ih =>
    obtain ⟨hb, hl⟩ := List.nodup_cons.1 hl
    obtain ⟨q, hq, hq0, hlen, hval⟩ := exists_factor hp h0 (h b List.mem_cons_self)
    refine Nat.lt_of_lt_of_le (Nat.succ_lt_succ (ih hq hq0 hl fun x hx => ?_)) hlen
    have hne : gadd x b ≠ 0#8 := fun he => hb (eq_of_gadd_eq_zero he ▸ hx)
    refine eq_zero_of_gmul hne ?_
    rw [gmul_comm, ← hval, h x (List.mem_cons_of_mem b hx)]

end

/-! ### The locator and its factors -/

section
variable {b x : Byte} {l : List Byte}

theorem ginv_ne_zero (a : Byte) : ginv a ≠ 0#8 := gfExpAt_ne_zero _ (Nat.mod_lt _ (by decide))

/-- The factor of the root `b` is 0 at `b` alone. -/
theorem factor_eq_zero_iff (hb : b ≠ 0#8) : gadd 1#8 (gmul (ginv b) x) = 0#8 ↔ b = x := by
  constructor
  · intro h
    calc b = gmul b (gmul (ginv b) x) := by rw [← eq_of_gadd_eq_zero h, gmul_one]
      _ = x := by rw [← gmul_assoc, gmul_ginv hb, one_gmul]
  · rintro rfl
    rw [gmul_comm, gmul_ginv hb, gadd_self]

/-- The polynomial of constant term 1 with the given roots (R336). -/
def errorLocator : List Byte → Poly
  | [] => [1#8]
  | b :: l => polyRawMul (errorLocator l) [ginv b, 1#8]

theorem errorLocator_length (l : List Byte) : (errorLocator l).length = l.length + 1 := by
  induction l with
  | nil => rfl
  | cons b l ih =>
    rw [errorLocator, polyRawMul_length _ _ (by simp), ih]
    rfl

theorem polyCoef_errorLocator_zero (l : List Byte) : polyCoef (errorLocator l) 0 = 1#8 := by
  induction l with
  | nil => rfl
  | cons b l ih =>
    rw [errorLocator, polyCoef_polyRawMul _ (by simp), conv, ih, one_gmul]
    rfl

theorem peval_errorLocator_cons (b : Byte) (l : List Byte) (x : Byte) :
    peval (errorLocator (b :: l)) x = gmul (peval (errorLocator l) x) (gadd 1#8 (gmul (ginv b) x)) := by
  rw [errorLocator, peval_polyRawMul _ (by simp), peval_linear]

theorem peval_errorLocator_eq_zero_iff (hl : ∀ b, b ∈ l → b ≠ 0#8) : peval (errorLocator l) x = 0#8 ↔ x ∈ l := by
  induction l with
  | nil => simp [errorLocator, peval, gadd]
  | cons b l ih =>
    have ih := ih fun a ha => hl a (List.mem_cons_of_mem b ha)
    have hfactor := factor_eq_zero_iff (x := x) (hl b List.mem_cons_self)
    rw [peval_errorLocator_cons, List.mem_cons, ← ih, eq_comm (a := x), ← hfactor]
    constructor
    · intro h
      by_cases h0 : peval (errorLocator l) x = 0#8
      · exact .inr h0
      · exact .inl (eq_zero_of_gmul h0 h)
    · rintro (h | h)
      · rw [h, gmul_zero]
      · rw [h, zero_gmul]

/-! ### The Forney denominator (R336) -/

theorem foldl_gmul (f : Byte → Byte) (l : List Byte) (v : Byte) :
    l.foldl (fun den a => gmul den (f a)) v = gmul v (l.foldl (fun den a => gmul den (f a)) 1#8) := by
  induction l generalizing v with
  | nil => exact (gmul_one v).symm
  | cons a l ih => rw [List.foldl_cons, List.foldl_cons, ih, ih (gmul 1#8 (f a)), one_gmul, gmul_assoc]

theorem rsDenominator_cons_self (b : Byte) (l : List Byte) : rsDenominator (b :: l) b = rsDenominator l b := by
  rw [rsDenominator, List.filter_cons_of_neg (by simp), ← rsDenominator]

theorem rsDenominator_cons_of_ne {a b : Byte} (h : a ≠ b) (l : List Byte) :
    rsDenominator (a :: l) b = gmul (gadd 1#8 (gmul (ginv a) b)) (rsDenominator l b) := by
  rw [rsDenominator, List.filter_cons_of_pos (by simpa using h), List.foldl_cons, foldl_gmul, one_gmul, ← rsDenominator]

theorem rsDenominator_ne_zero (hl : ∀ a, a ∈ l → a ≠ 0#8) (b : Byte) : rsDenominator l b ≠ 0#8 := by
  induction l with
  | nil => simp [rsDenominator]
  | cons a l ih =>
    have ih := ih fun c hc => hl c (List.mem_cons_of_mem a hc)
    by_cases hab : a = b
    · rwa [hab, rsDenominator_cons_self]
    · rw [rsDenominator_cons_of_ne hab]
      exact gmul_ne_zero (mt (factor_eq_zero_iff (hl a List.mem_cons_self)).1 hab) ih

/-- At a point that is no root the denominator is the locator. -/
theorem rsDenominator_eq_peval (hb : b ∉ l) : rsDenominator l b = peval (errorLocator l) b := by
  induction l with
  | nil => simp [rsDenominator, errorLocator, peval, gadd]
  | cons a l ih =>
    obtain ⟨hne, hb⟩ := not_or.1 (mt List.mem_cons.2 hb)
    rw [rsDenominator_cons_of_ne (Ne.symm hne), ih hb, peval_errorLocator_cons, gmul_comm]

/-! ### The evaluator -/

variable {y : Byte → Byte}

/-- The evaluator of the errors with the roots `l` and the values `y` (R336). -/
def errorEvaluator (y : Byte → Byte) : List Byte → Poly
  | [] => []
  | b :: l => padd (polyShift (errorLocator l) 0 (y b)) (polyRawMul (errorEvaluator y l) [ginv b, 1#8])

theorem errorEvaluator_length_le (y : Byte → Byte) (l : List Byte) : (errorEvaluator y l).length ≤ l.length := by
  induction l with
  | nil => exact Nat.le_refl 0
  | cons b l ih =>
    have hsum := padd_length_le (polyShift (errorLocator l) 0 (y b)) (polyRawMul (errorEvaluator y l) [ginv b, 1#8])
    rw [polyShift_length, errorLocator_length, polyRawMul_length _ _ (by simp)] at hsum
    rw [errorEvaluator]
    simp only [List.length_cons, List.length_nil] at *
    omega

theorem peval_errorEvaluator_cons (y : Byte → Byte) (b : Byte) (l : List Byte) (x : Byte) :
    peval (errorEvaluator y (b :: l)) x =
      gadd (gmul (peval (errorLocator l) x) (y b)) (gmul (peval (errorEvaluator y l) x) (gadd 1#8 (gmul (ginv b) x))) := by
  rw [errorEvaluator, peval_gadd_of_polyCoef (polyCoef_padd _ _), peval_polyShift, gpow_zero, gmul_one,
    peval_polyRawMul _ (by simp), peval_linear]

/-- The evaluator at a root: the error value times the Forney denominator (R336). -/
theorem peval_errorEvaluator (hl : ∀ a, a ∈ l → a ≠ 0#8) (hnodup : l.Nodup) (hb : b ∈ l) :
    peval (errorEvaluator y l) b = gmul (y b) (rsDenominator l b) := by
  induction l with
  | nil => cases hb
  | cons a l ih =>
    obtain ⟨ha, hnodup⟩ := List.nodup_cons.1 hnodup
    have hl' (c) (hc : c ∈ l) : c ≠ 0#8 := hl c (List.mem_cons_of_mem a hc)
    rw [peval_errorEvaluator_cons]
    obtain rfl | hb := List.mem_cons.1 hb
    · rw [(factor_eq_zero_iff (hl b List.mem_cons_self)).2 rfl, gmul_zero, gadd_zero, rsDenominator_cons_self,
        rsDenominator_eq_peval ha, gmul_comm]
    · have hne : a ≠ b := fun h => ha (h ▸ hb)
      rw [(peval_errorLocator_eq_zero_iff hl').2 hb, zero_gmul, zero_gadd, ih hl' hnodup hb, rsDenominator_cons_of_ne hne,
        gmul_assoc, gmul_comm (rsDenominator l b)]

/-- The magnitude at a root is its error value (R336). -/
theorem rsMagnitude_eq (hl : ∀ a, a ∈ l → a ≠ 0#8) (hnodup : l.Nodup) (hb : b ∈ l) {omega : Poly}
    (homega : peval omega b = peval (errorEvaluator y l) b) : rsMagnitude omega l b = y b := by
  rw [rsMagnitude, homega, peval_errorEvaluator hl hnodup hb, gmul_assoc, gmul_ginv (rsDenominator_ne_zero hl b), gmul_one]

/-! ### The key equation (R333) -/

/-- The sum of a list of elements. -/
def gsum (l : List Byte) : Byte := l.foldr gadd 0#8

/-- The sum of the errors' terms at `α^i`, for every `i`: the syndromes, and what would come after them. -/
def errorSeries (y : Byte → Byte) (l : List Byte) (i : Nat) : Byte := gsum (l.map fun b => gmul (y b) (gpow (ginv b) i))

theorem errorSeries_cons (y : Byte → Byte) (b : Byte) (l : List Byte) :
    errorSeries y (b :: l) = gaddSeq (fun i => gmul (y b) (gpow (ginv b) i)) (errorSeries y l) := rfl

/-- A geometric series times its factor is its first term. -/
theorem conv_geometric (c e : Byte) (d : Nat) :
    conv (polyCoef [e, 1#8]) (fun i => gmul c (gpow e i)) d = if d = 0 then c else 0#8 := by
  cases d with
  | zero => exact (one_gmul _).trans ((congrArg _ (gpow_zero e)).trans (gmul_one c))
  | succ d =>
    have htail : (fun i => polyCoef [e, 1#8] (i + 1)) = fun i => if i = 0 then e else 0#8 := funext fun i => by
      rw [polyCoef_cons, polyCoef_eq_zero (by simp)]
      simp
    have hhead : polyCoef [e, 1#8] 0 = 1#8 := rfl
    rw [conv_succ, htail, conv_monomial, if_pos (Nat.zero_le d), hhead, one_gmul, Nat.sub_zero, gpow_succ, gmul_comm e,
      gmul_assoc, gadd_self, if_neg (Nat.succ_ne_zero d)]

/-- The locator times the series is the evaluator. -/
theorem conv_errorSeries (y : Byte → Byte) (l : List Byte) :
    conv (polyCoef (errorLocator l)) (errorSeries y l) = polyCoef (errorEvaluator y l) := by
  have := conv_isAssociative
  have := conv_isCommutative
  induction l with
  | nil => exact funext fun d => (conv_zero_right _ d).trans (polyCoef_nil d).symm
  | cons b l ih =>
    have hlin : 1 ≤ [ginv b, 1#8].length := by simp
    have hfirst : conv (conv (polyCoef (errorLocator l)) (polyCoef [ginv b, 1#8])) (fun i => gmul (y b) (gpow (ginv b) i)) =
        polyCoef (polyShift (errorLocator l) 0 (y b)) := by
      funext d
      rw [conv_assoc, funext (conv_geometric (y b) (ginv b)), conv_comm, conv_monomial, polyCoef_polyShift, gmul_comm]
    have hrest : conv (conv (polyCoef (errorLocator l)) (polyCoef [ginv b, 1#8])) (errorSeries y l) =
        conv (polyCoef (errorEvaluator y l)) (polyCoef [ginv b, 1#8]) := by
      rw [← ih]
      ac_rfl
    rw [errorLocator, polyCoef_polyRawMul_seq _ hlin, errorSeries_cons, conv_gaddSeq_right, hfirst, hrest, errorEvaluator,
      polyCoef_padd_seq, polyCoef_polyRawMul_seq _ hlin]

/-- Locator and evaluator solve the key equation for the syndromes, the first `k` terms of the series. -/
theorem errorLocator_solves {S : Poly} {k : Nat} (hpos : 1 ≤ S.length) (hS : ∀ d, d < k → polyCoef S d = errorSeries y l d) :
    ∃ v, SolvesWith (pmono k 1#8) S (errorLocator l) (errorEvaluator y l) v := by
  have hlen := errorLocator_length l
  have hlen' := errorEvaluator_length_le y l
  refine ⟨lowBytes (fun d => gadd (polyCoef (errorEvaluator y l) (d + k)) (conv (polyCoef (errorLocator l)) (polyCoef S) (d + k)))
    (l.length + S.length), funext fun d => ?_⟩
  rw [gaddSeq, conv_comm (polyCoef (lowBytes _ _)), conv_pmono_one]
  split
  · next hd =>
    rw [polyCoef_lowBytes, Nat.sub_add_cancel hd, gadd_gadd_cancel]
    intro i hi
    rw [polyCoef_eq_zero (by omega), conv_eq_zero hpos (by omega), gadd_self]
  · next hd =>
    rw [gadd_zero, ← conv_errorSeries y l]
    exact conv_congr (fun _ _ => rfl) fun i hi => hS i (by omega)

end

end Sys2Proof.Machine
end

section
/-! PROOFS of the statement on RS_DECODE (45_rs.md R336 to R338). A word's syndromes are those of its errors, so where these are
few Euclid's algorithm ends with their locator and evaluator; the roots found are then the wrong bytes', and the magnitudes their
errors. -/

namespace Sys2Proof.Machine

/-! ### What the decoding function answers (45_rs.md R336) -/

/-- The syndrome polynomial of a word (R333). -/
def syndromePoly (c : List Byte) (k : Nat) : Poly := polyNorm (rsSyndromes c k).reverse

/-- The word with the magnitude of each root added at its position. -/
def rsCorrected (c : List Byte) (omega : Poly) (roots : List Byte) : List Byte :=
  roots.foldl (fun out b => xorAt out ((rsPosition c.length b).getD 0) (rsMagnitude omega roots b)) c

/-- The answer the decoding function makes of Λ and Ω. -/
def rsAnswer (c : List Byte) (lam omega : Poly) : Except Raise (List Byte × Nat × Nat) :=
  if (rsRoots lam).length ≠ polyDeg lam then .error (raise .rsUndecodable 3)
  else if (rsRoots lam).any fun b => (rsPosition c.length b).isNone then .error (raise .rsUndecodable 4)
  else .ok (rsCorrected c omega (rsRoots lam), polyDeg lam, 1)

section
variable {c out : List Byte} {k n f : Nat} {lam omega : Poly}

theorem rsDecode_of_isCodeword (h : IsCodeword c k) : rsDecode c k = .ok (c, 0, 0) := if_pos (rsSyndromes_all.2 h)

theorem rsDecode_of_euclid_error {e : Raise} (h : ¬ IsCodeword c k) (he : euclid (pmono k 1#8) (syndromePoly c k) k = .error e) :
    rsDecode c k = .error e := by
  rw [syndromePoly] at he
  rw [rsDecode, if_neg (mt rsSyndromes_all.1 h), he]

theorem rsDecode_of_euclid_ok {steps : Nat} (h : ¬ IsCodeword c k)
    (hok : euclid (pmono k 1#8) (syndromePoly c k) k = .ok (lam, omega, steps)) : rsDecode c k = rsAnswer c lam omega := by
  rw [syndromePoly] at hok
  rw [rsDecode, if_neg (mt rsSyndromes_all.1 h), hok]
  rfl

theorem polyHeld_syndromePoly (hk : 0 < k) (hk' : k ≤ 255) : polyHeld (syndromePoly c k) :=
  polyHeld_polyNorm (by rwa [List.length_reverse, rsSyndromes_length])
    (by rw [List.length_reverse, rsSyndromes_length, Config.polyLenMax]; omega)

theorem syndromePoly_length_le : (syndromePoly c k).length ≤ k := by
  have h := polyNorm_length_le (rsSyndromes c k).reverse
  rwa [List.length_reverse, rsSyndromes_length] at h

theorem pmono_one_length (k : Nat) : (pmono k 1#8).length = k + 1 := by
  rw [pmono, if_neg (by decide), List.length_cons, zeroBytes, List.length_replicate]

theorem polyDeg_pmono_one (k : Nat) : polyDeg (pmono k 1#8) = k := by rw [polyDeg, pmono_one_length, Nat.add_sub_cancel]

/-- `x^k` is the operand of larger degree (R336). -/
theorem euclid_syndromePoly : euclid (pmono k 1#8) (syndromePoly c k) k = euclidOrdered (pmono k 1#8) (syndromePoly c k) k := by
  have h := syndromePoly_length_le (c := c) (k := k)
  refine if_neg ?_
  rw [polyDeg_pmono_one, polyDeg]
  omega

/-- The errors of Euclid's algorithm, of the count of roots and of a position (R336). -/
theorem rsDecode_eq_error {e : Raise} (hk : k ≤ 255) (h : rsDecode c k = .error e) :
    e.kind = .rsUndecodable ∧ 2 ≤ e.info.toNat ∧ e.info.toNat ≤ 4 := by
  have hcode : ¬ IsCodeword c k := fun hc => by simp [rsDecode_of_isCodeword hc] at h
  have hpos : 0 < k := Nat.pos_of_ne_zero fun h0 => hcode fun i hi => absurd hi (by omega)
  obtain ⟨t, r, steps, hans, -⟩ := euclidOrdered_solves (a := pmono k 1#8) (polyHeld_pmono _ hk)
    (polyHeld_syndromePoly (c := c) hpos hk) (by rw [pmono_one_length]; exact Nat.le_succ_of_le syndromePoly_length_le) hpos
  rw [← euclid_syndromePoly, euclidAnswer] at hans
  split at hans
  · rw [rsDecode_of_euclid_error hcode hans] at h
    cases h
    decide
  · rw [rsDecode_of_euclid_ok hcode hans, rsAnswer] at h
    split at h
    · cases h
      decide
    · split at h
      · cases h
        decide
      · cases h

theorem rsAnswer_eq_ok (h : rsAnswer c lam omega = .ok (out, n, f)) :
    out = rsCorrected c omega (rsRoots lam) ∧ n = (rsRoots lam).length := by
  unfold rsAnswer at h
  split at h
  · cases h
  · next hlen =>
    split at h
    · cases h
    · cases h
      exact ⟨rfl, (Decidable.not_not.1 hlen).symm⟩

/-- A word the decoding function answers is the word itself, or has each root's magnitude added. -/
theorem rsDecode_eq_ok (h : rsDecode c k = .ok (out, n, f)) :
    out = c ∨ ∃ omega roots, out = rsCorrected c omega roots ∧ n = roots.length := by
  by_cases hcode : IsCodeword c k
  · rw [rsDecode_of_isCodeword hcode] at h
    cases h
    exact .inl rfl
  · cases he : euclid (pmono k 1#8) (syndromePoly c k) k with
    | error e =>
      rw [rsDecode_of_euclid_error hcode he] at h
      cases h
    | ok a =>
      rw [rsDecode_of_euclid_ok hcode he] at h
      exact .inr ⟨_, _, rsAnswer_eq_ok h⟩

end

/-! ### Bytes of a corrected word -/

section
variable {c w out : List Byte} {roots : List Byte} {pos : Byte → Nat} {mag : Byte → Byte} {b : Byte} {i : Nat}

theorem getD_xorAt (l : List Byte) (p : Nat) (e : Byte) (i : Nat) :
    (xorAt l p e).getD i 0#8 = if p = i ∧ i < l.length then gadd (l.getD i 0#8) e else l.getD i 0#8 := by
  rw [xorAt, List.getD_eq_getElem?_getD, List.getElem?_modify, List.getD_eq_getElem?_getD]
  by_cases hi : i < l.length
  · rw [List.getElem?_eq_getElem hi]
    split <;> simp_all
  · rw [List.getElem?_eq_none (Nat.le_of_not_lt hi), if_neg fun h => hi h.2]
    rfl

/-- A byte at no root's position is kept. -/
theorem getD_foldl_xorAt_of_ne (h : ∀ b ∈ roots, pos b ≠ i) :
    (roots.foldl (fun out b => xorAt out (pos b) (mag b)) c).getD i 0#8 = c.getD i 0#8 := by
  induction roots generalizing c with
  | nil => rfl
  | cons b roots ih =>
    rw [List.foldl_cons, ih fun a ha => h a (List.mem_cons_of_mem _ ha), getD_xorAt, if_neg fun hp => h b List.mem_cons_self hp.1]

/-- The byte at a root's position has the root's magnitude added, if no other root has the position. -/
theorem getD_foldl_xorAt_of_mem (hnodup : (roots.map pos).Nodup) (hb : b ∈ roots) (hi : pos b < c.length) :
    (roots.foldl (fun out b => xorAt out (pos b) (mag b)) c).getD (pos b) 0#8 = gadd (c.getD (pos b) 0#8) (mag b) := by
  induction roots generalizing c with
  | nil => cases hb
  | cons a roots ih =>
    obtain ⟨ha, hnodup⟩ := List.nodup_cons.1 hnodup
    have hne (d) (hd : d ∈ roots) : pos d ≠ pos a := fun h => ha (h ▸ List.mem_map_of_mem hd)
    rw [List.foldl_cons]
    obtain rfl | hb := List.mem_cons.1 hb
    · rw [getD_foldl_xorAt_of_ne hne, getD_xorAt, if_pos ⟨rfl, hi⟩]
    · rw [ih hnodup hb (by rwa [xorAt, List.length_modify]), getD_xorAt, if_neg fun h => hne b hb h.1.symm]

theorem eq_of_getD_eq {a b : List Byte} (hlen : a.length = b.length) (h : ∀ i, i < a.length → a.getD i 0#8 = b.getD i 0#8) :
    a = b := by
  refine List.ext_getElem hlen fun i hi hi' => ?_
  have hget := h i hi
  rwa [List.getD_eq_getElem?_getD, List.getD_eq_getElem?_getD, List.getElem?_eq_getElem hi, List.getElem?_eq_getElem hi',
    Option.getD_some, Option.getD_some] at hget

theorem rsCorrected_length (c : List Byte) (omega : Poly) (roots : List Byte) : (rsCorrected c omega roots).length = c.length :=
  List.foldlRecOn (motive := fun out : List Byte => out.length = c.length) _ _ rfl fun out ho _ _ => by
    rw [xorAt, List.length_modify, ho]

/-- The positions of the bytes in which two words differ. -/
def wrongPositions (w c : List Byte) : List Nat := (List.range c.length).filter fun j => w.getD j 0#8 != c.getD j 0#8

theorem mem_wrongPositions {j : Nat} : j ∈ wrongPositions w c ↔ j < c.length ∧ w.getD j 0#8 ≠ c.getD j 0#8 := by
  rw [wrongPositions, List.mem_filter, List.mem_range, bne_iff_ne]

theorem getD_eq_of_not_wrong (hi : i < c.length) (h : i ∉ wrongPositions w c) : w.getD i 0#8 = c.getD i 0#8 :=
  Decidable.byContradiction fun hne => h (mem_wrongPositions.2 ⟨hi, hne⟩)

theorem nodup_wrongPositions (w c : List Byte) : (wrongPositions w c).Nodup := List.Pairwise.filter _ List.nodup_range

theorem length_le_of_nodup {l m : List Nat} (hl : l.Nodup) (h : ∀ a, a ∈ l → a ∈ m) : l.length ≤ m.length := by
  induction l generalizing m with
  | nil => exact Nat.zero_le _
  | cons a l ih =>
    obtain ⟨ha, hl⟩ := List.nodup_cons.1 hl
    have hmem := h a List.mem_cons_self
    have hne {b : Nat} (hb : b ∈ l) : b ≠ a := fun hab => ha (hab ▸ hb)
    have hrest := ih (m := m.erase a) hl fun b hb => (List.mem_erase_of_ne (hne hb)).2 (h b (List.mem_cons_of_mem a hb))
    have hpos := List.length_pos_of_mem hmem
    rw [List.length_erase_of_mem hmem] at hrest
    rw [List.length_cons]
    omega

/-- At most one byte is wrong for each root. -/
theorem wrongPositions_rsCorrected_length_le (c : List Byte) (omega : Poly) (roots : List Byte) :
    (wrongPositions (rsCorrected c omega roots) c).length ≤ roots.length := by
  have hsub (j : Nat) (hj : j ∈ wrongPositions (rsCorrected c omega roots) c) :
      j ∈ roots.map fun b => (rsPosition c.length b).getD 0 := by
    refine Decidable.byContradiction fun hmem => (mem_wrongPositions.1 hj).2 (getD_foldl_xorAt_of_ne fun b hb hp => ?_)
    exact hmem (List.mem_map.2 ⟨b, hb, hp⟩)
  exact Nat.le_trans (length_le_of_nodup (nodup_wrongPositions _ c) hsub) (Nat.le_of_eq (List.length_map _))

theorem wrongPositions_rsDecode_length_le {k n f : Nat} (h : rsDecode c k = .ok (out, n, f)) :
    (wrongPositions out c).length ≤ n := by
  obtain rfl | ⟨omega, roots, rfl, rfl⟩ := rsDecode_eq_ok h
  · have hnone : wrongPositions out out = [] := List.filter_eq_nil_iff.2 fun j _ => by simp
    rw [hnone]
    exact Nat.zero_le n
  · exact wrongPositions_rsCorrected_length_le c omega roots

end

/-! ### The roots of the wrong bytes (45_rs.md R331) -/

/-- The elements the decoding function tries as roots (R336). -/
def nonzeroBytes : List Byte := (List.range 255).map fun i => BitVec.ofNat 8 (i + 1)

/-- The root that stands for byte `j` of an `n`-byte word: the inverse of its locator (R331). -/
def rootAt (n j : Nat) : Byte := ginv (gexp (n - 1 - j))

/-- The roots of the bytes in which two words differ, in the order the decoding function finds them. -/
def errorRoots (w c : List Byte) : List Byte :=
  nonzeroBytes.filter fun b => (rsPosition c.length b).any fun j => w.getD j 0#8 != c.getD j 0#8

/-- How far the byte of a root is from that of the codeword. -/
def errorValue (w c : List Byte) (b : Byte) : Byte :=
  gadd (c.getD ((rsPosition c.length b).getD 0) 0#8) (w.getD ((rsPosition c.length b).getD 0) 0#8)

section
variable {c w : List Byte} {b : Byte} {lam : Poly} {j n : Nat}

theorem mem_nonzeroBytes : b ∈ nonzeroBytes ↔ b ≠ 0#8 := by
  rw [nonzeroBytes, List.mem_map]
  constructor
  · rintro ⟨i, hi, rfl⟩
    have hi := List.mem_range.1 hi
    bv_omega
  · intro hb
    exact ⟨b.toNat - 1, List.mem_range.2 (by bv_omega), by bv_omega⟩

theorem nodup_nonzeroBytes : nonzeroBytes.Nodup := by
  refine List.pairwise_map.2 (List.Pairwise.imp_of_mem (fun {i j} hi hj hlt h => ?_) List.pairwise_lt_range)
  have hi := List.mem_range.1 hi
  have hj := List.mem_range.1 hj
  bv_omega

theorem ginv_ginv {a : Byte} (ha : a ≠ 0#8) : ginv (ginv a) = a := by
  rw [← one_gmul (ginv (ginv a)), ← gmul_ginv ha, gmul_assoc, gmul_ginv (ginv_ne_zero a), gmul_one]

theorem ginv_rootAt (n j : Nat) : ginv (rootAt n j) = gexp (n - 1 - j) := ginv_ginv (gexp_ne_zero _)

theorem rsPosition_rootAt (hj : j < n) (hn : n ≤ 255) : rsPosition n (rootAt n j) = some j := by
  have hlog : glog (ginv (rootAt n j)) = n - 1 - j := by rw [ginv_rootAt, glog_gexp, Nat.mod_eq_of_lt (by omega)]
  have hback : n - 1 - (n - 1 - j) = j := by omega
  rw [rsPosition, hlog, if_pos (by omega), hback]

theorem rsPosition_eq_some (hb : b ≠ 0#8) (h : rsPosition n b = some j) : j < n ∧ rootAt n j = b := by
  unfold rsPosition at h
  split at h
  · next hle =>
    obtain rfl := Option.some.inj h
    have hback : n - 1 - (n - 1 - glog (ginv b)) = glog (ginv b) := by omega
    exact ⟨by omega, by rw [rootAt, hback, gexp_glog (ginv_ne_zero b), ginv_ginv hb]⟩
  · cases h

theorem mem_errorRoots (hn : c.length ≤ 255) : b ∈ errorRoots w c ↔ ∃ j, j ∈ wrongPositions w c ∧ rootAt c.length j = b := by
  rw [errorRoots, List.mem_filter, mem_nonzeroBytes]
  constructor
  · rintro ⟨hb, hany⟩
    obtain ⟨j, hj, hne⟩ := (Option.any_eq_true _ _).1 hany
    obtain ⟨hlt, hroot⟩ := rsPosition_eq_some hb hj
    exact ⟨j, mem_wrongPositions.2 ⟨hlt, bne_iff_ne.1 hne⟩, hroot⟩
  · rintro ⟨j, hj, rfl⟩
    obtain ⟨hlt, hne⟩ := mem_wrongPositions.1 hj
    refine ⟨ginv_ne_zero _, ?_⟩
    rw [rsPosition_rootAt hlt hn]
    exact bne_iff_ne.2 hne

theorem errorRoots_ne_zero (hb : b ∈ errorRoots w c) : b ≠ 0#8 := mem_nonzeroBytes.1 (List.mem_filter.1 hb).1

theorem nodup_errorRoots (w c : List Byte) : (errorRoots w c).Nodup := List.Pairwise.filter _ nodup_nonzeroBytes

theorem errorRoots_perm (hn : c.length ≤ 255) : (errorRoots w c).Perm ((wrongPositions w c).map (rootAt c.length)) := by
  have hnodup : ((wrongPositions w c).map (rootAt c.length)).Nodup := by
    refine List.pairwise_map.2 (List.Pairwise.imp_of_mem (fun {i j} hi hj hne h => hne ?_) (nodup_wrongPositions w c))
    have hpos := congrArg (rsPosition c.length) h
    rwa [rsPosition_rootAt (mem_wrongPositions.1 hi).1 hn, rsPosition_rootAt (mem_wrongPositions.1 hj).1 hn,
      Option.some_inj] at hpos
  refine (List.perm_ext_iff_of_nodup (nodup_errorRoots w c) hnodup).2 fun b => ?_
  rw [mem_errorRoots hn, List.mem_map]

theorem errorRoots_length (hn : c.length ≤ 255) : (errorRoots w c).length = (wrongPositions w c).length := by
  rw [(errorRoots_perm hn).length_eq, List.length_map]

theorem errorValue_rootAt (hj : j < c.length) (hn : c.length ≤ 255) :
    errorValue w c (rootAt c.length j) = gadd (c.getD j 0#8) (w.getD j 0#8) := by
  rw [errorValue, rsPosition_rootAt hj hn, Option.getD_some]

theorem errorValue_ne_zero (hn : c.length ≤ 255) (hb : b ∈ errorRoots w c) : errorValue w c b ≠ 0#8 := by
  obtain ⟨j, hj, rfl⟩ := (mem_errorRoots hn).1 hb
  obtain ⟨hlt, hne⟩ := mem_wrongPositions.1 hj
  rw [errorValue_rootAt hlt hn]
  exact fun h => hne (eq_of_gadd_eq_zero h).symm

/-- A polynomial with the wrong bytes' roots has no others among the elements tried. -/
theorem rsRoots_eq_errorRoots (h : ∀ b, peval lam b = 0#8 ↔ b ∈ errorRoots w c) : rsRoots lam = errorRoots w c := by
  refine List.filter_congr (l := nonzeroBytes) fun b hb => ?_
  rw [Bool.eq_iff_iff, beq_iff_eq, h, errorRoots, List.mem_filter, and_iff_right hb]

end

/-! ### The syndromes of the errors (45_rs.md R330, R332) -/

section
variable {c w : List Byte} {k : Nat}

theorem gsum_perm {l m : List Byte} (h : l.Perm m) : gsum l = gsum m := by
  induction h with
  | nil => rfl
  | cons a _ ih => exact congrArg (gadd a) ih
  | swap a b l =>
    have hswap : gadd b (gadd a (gsum l)) = gadd a (gadd b (gsum l)) := by
      rw [← gadd_assoc, ← gadd_assoc, gadd_comm b]
    exact hswap
  | trans _ _ ih ih' => exact ih.trans ih'

/-- Terms that are 0 may be left out of a sum. -/
theorem gsum_map_filter {f : Nat → Byte} {p : Nat → Bool} {l : List Nat} (h : ∀ j, j ∈ l → p j = false → f j = 0#8) :
    gsum ((l.filter p).map f) = gsum (l.map f) := by
  induction l with
  | nil => rfl
  | cons j l ih =>
    have ih := ih fun i hi => h i (List.mem_cons_of_mem j hi)
    cases hp : p j with
    | true =>
      rw [List.filter_cons_of_pos hp]
      exact congrArg (gadd (f j)) ih
    | false =>
      have hj : gadd (f j) (gsum (l.map f)) = gsum (l.map f) := by rw [h j List.mem_cons_self hp, zero_gadd]
      rw [List.filter_cons_of_neg (by simp [hp]), ih]
      exact hj.symm

/-- A value as a sum over the bytes of a word (R330). -/
theorem peval_eq_gsum (l : List Byte) (x : Byte) :
    peval l x = gsum ((List.range l.length).map fun j => gmul (l.getD j 0#8) (gpow x (l.length - 1 - j))) := by
  induction l with
  | nil => rfl
  | cons a l ih =>
    have hexp (j : Nat) : l.length + 1 - 1 - (j + 1) = l.length - 1 - j := by omega
    rw [peval_cons, ih, List.length_cons, List.range_succ_eq_map, List.map_cons, List.map_map]
    simp only [Function.comp_def, Nat.succ_eq_add_one, List.getD_cons_succ, hexp]
    rfl

theorem gpow_gexp (i e : Nat) : gpow (gexp i) e = gexp (i * e) := by
  induction e with
  | zero =>
    rw [gpow_zero, Nat.mul_zero]
    rfl
  | succ e ih => rw [gpow_succ, ih, gmul_gexp, Nat.mul_succ]

/-- The syndromes of a word are those of its errors against any codeword (R332). -/
theorem syndrome_eq_errorSeries (hlen : w.length = c.length) (hn : c.length ≤ 255) (hw : IsCodeword w k) {i : Nat} (hi : i < k) :
    peval c (gexp i) = errorSeries (errorValue w c) (errorRoots w c) i := by
  have hdlen : (List.zipWith gadd c w).length = c.length := by rw [List.length_zipWith, hlen, Nat.min_self]
  have hd (j : Nat) (hj : j < c.length) : (List.zipWith gadd c w).getD j 0#8 = gadd (c.getD j 0#8) (w.getD j 0#8) := by
    have hj' : j < w.length := hlen ▸ hj
    rw [List.getD_eq_getElem?_getD, List.getElem?_eq_getElem (by rwa [hdlen]), List.getElem_zipWith,
      List.getD_eq_getElem?_getD, List.getElem?_eq_getElem hj, List.getD_eq_getElem?_getD, List.getElem?_eq_getElem hj']
    rfl
  have hterm (j : Nat) (hj : j < c.length) :
      gmul (errorValue w c (rootAt c.length j)) (gpow (ginv (rootAt c.length j)) i) =
        gmul ((List.zipWith gadd c w).getD j 0#8) (gpow (gexp i) (c.length - 1 - j)) := by
    rw [errorValue_rootAt hj hn, ginv_rootAt, hd j hj, gpow_gexp, gpow_gexp, Nat.mul_comm]
  calc peval c (gexp i) = peval (List.zipWith gadd c w) (gexp i) := by
        rw [peval_gadd_of_polyCoef (polyCoef_zipWith_gadd hlen.symm), hw i hi, gadd_zero]
    _ = gsum ((wrongPositions w c).map fun j =>
          gmul ((List.zipWith gadd c w).getD j 0#8) (gpow (gexp i) (c.length - 1 - j))) := by
        rw [peval_eq_gsum, hdlen]
        refine (gsum_map_filter fun j hj hp => ?_).symm
        have hj := List.mem_range.1 hj
        rw [hd j hj, bne_eq_false_iff_eq.1 hp, gadd_self, zero_gmul]
    _ = _ := by
        rw [errorSeries, gsum_perm ((errorRoots_perm hn).map _), List.map_map]
        exact congrArg gsum (List.map_congr_left fun j hj => (hterm j (mem_wrongPositions.1 hj).1).symm)

theorem polyCoef_syndromePoly (c : List Byte) {k d : Nat} (hd : d < k) : polyCoef (syndromePoly c k) d = peval c (gexp d) := by
  rw [syndromePoly, polyCoef_polyNorm, polyCoef, List.reverse_reverse, List.getD_eq_getElem?_getD,
    List.getElem?_eq_getElem (by rwa [rsSyndromes_length]), rsSyndromes_getElem]
  rfl

end

/-! ### Few errors are corrected (45_rs.md R336, R338) -/

section
variable {c w S t r tl ul u v lam omega : Poly} {l : List Byte} {y : Byte → Byte} {k : Nat}

/-- The roots of some errors, each with an error value that is not 0. -/
structure IsErrors (l : List Byte) (y : Byte → Byte) : Prop where
  ne_zero : ∀ b, b ∈ l → b ≠ 0#8
  nodup : l.Nodup
  value_ne_zero : ∀ b, b ∈ l → y b ≠ 0#8

theorem IsErrors.peval_errorEvaluator_ne_zero (he : IsErrors l y) {b : Byte} (hb : b ∈ l) :
    peval (errorEvaluator y l) b ≠ 0#8 := by
  rw [peval_errorEvaluator he.ne_zero he.nodup hb]
  exact gmul_ne_zero (he.value_ne_zero b hb) (rsDenominator_ne_zero he.ne_zero b)

theorem EuclidSolves.lengths (h : EuclidSolves (pmono k 1#8) S k t r) : 2 * t.length ≤ k + 2 ∧ 2 * r.length < k + 2 := by
  have htpos := h.t_held.1
  have hrpos := h.r_held.1
  have hr := h.r_low
  have ht := h.t_low
  rw [polyDeg_pmono_one] at ht
  simp only [polyDeg] at ht hr
  refine ⟨?_, by omega⟩
  obtain rfl | ht := ht
  · exact Nat.le_add_left 2 k
  · omega

/-- The pair Euclid's algorithm ends with is the locator and the evaluator of few errors, up to a constant. -/
theorem IsErrors.solution_eq (he : IsErrors l y) (hcard : l.length ≤ k / 2) (hsol : EuclidSolves (pmono k 1#8) S k t r)
    (ht : SolvesWith (pmono k 1#8) S t r u) (hdet : UnitDeterminant tl t ul u)
    (hlam : SolvesWith (pmono k 1#8) S (errorLocator l) (errorEvaluator y l) v) :
    ∃ e, (∀ d, gmul e (polyCoef t d) = polyCoef (errorLocator l) d) ∧
      ∀ d, gmul e (polyCoef r d) = polyCoef (errorEvaluator y l) d := by
  have hlamlen := errorLocator_length l
  have homegalen := errorEvaluator_length_le y l
  obtain ⟨htlen, hrlen⟩ := hsol.lengths
  obtain ⟨hratio, hcof⟩ := cross_products ht hlam (fun d hd => conv_eq_zero hsol.t_held.1 (by omega))
    (fun d hd => conv_eq_zero hsol.r_held.1 (by omega))
  have hroots (b : Byte) (hb : b ∈ l) : peval t b = 0#8 := by
    have hval : peval (polyRawMul (errorEvaluator y l) t) b = peval (polyRawMul (errorLocator l) r) b :=
      peval_congr (congrFun (by rwa [polyCoef_polyRawMul_seq _ hsol.t_held.1, polyCoef_polyRawMul_seq _ hsol.r_held.1])) b
    rw [peval_polyRawMul _ hsol.t_held.1, peval_polyRawMul _ hsol.r_held.1,
      (peval_errorLocator_eq_zero_iff he.ne_zero).2 hb, zero_gmul] at hval
    exact eq_zero_of_gmul (he.peval_errorEvaluator_ne_zero hb) hval
  have hmany := roots_length_lt hsol.t_held hsol.t_ne he.nodup hroots
  obtain ⟨m, hm⟩ := exists_multiple hdet hcof
  obtain ⟨e, hmul⟩ := multiple_is_constant hm hsol.t_held hsol.t_ne (by omega)
  refine ⟨e, hmul, fun d => ?_⟩
  obtain hd | hd := Nat.lt_or_ge d k
  · rw [← ht.coef_lt hd, ← hlam.coef_lt hd, ← conv_gmul_left, funext hmul]
  · rw [polyCoef_eq_zero (by omega), polyCoef_eq_zero (by omega), gmul_zero]

/-- Few errors are found: Λ and Ω are the error locator and evaluator (R301, R336). -/
theorem IsErrors.euclid_finds (he : IsErrors l y) (hpos : 0 < l.length) (hcard : l.length ≤ k / 2) (hk : k ≤ 255)
    (hsyn : ∀ i, i < k → peval c (gexp i) = errorSeries y l i) :
    ∃ lam omega steps, euclid (pmono k 1#8) (syndromePoly c k) k = .ok (lam, omega, steps) ∧ polyHeld lam ∧
      (∀ d, polyCoef lam d = polyCoef (errorLocator l) d) ∧ ∀ d, polyCoef omega d = polyCoef (errorEvaluator y l) d := by
  have hS := polyHeld_syndromePoly (c := c) (k := k) (by omega) hk
  obtain ⟨t, r, steps, hans, hsol, rl, tl, ul, u, -, ht, hdet⟩ := euclidOrdered_bezout (a := pmono k 1#8) (bound := k)
    (polyHeld_pmono _ hk) hS (by rw [pmono_one_length]; exact Nat.le_succ_of_le syndromePoly_length_le) (by omega)
  obtain ⟨v, hlam⟩ := errorLocator_solves (y := y) (l := l) hS.1 fun d hd => (polyCoef_syndromePoly c hd).trans (hsyn d hd)
  obtain ⟨e, hmul, hmul'⟩ := he.solution_eq hcard hsol ht hdet hlam
  have hone : gmul e (polyCoef t 0) = 1#8 := (hmul 0).trans (polyCoef_errorLocator_zero l)
  have hc : polyCoef t 0 ≠ 0#8 := fun h0 => by
    rw [h0, gmul_zero] at hone
    exact absurd hone (by decide)
  have hinv : ginv (polyCoef t 0) = e := by
    calc ginv (polyCoef t 0) = gmul (gmul e (polyCoef t 0)) (ginv (polyCoef t 0)) := by rw [hone, one_gmul]
      _ = e := by rw [gmul_assoc, gmul_ginv hc, gmul_one]
  refine ⟨_, _, steps, (euclid_syndromePoly.trans hans).trans (if_neg hc), polyHeld_pscale _ hsol.t_held,
    fun d => ?_, fun d => ?_⟩
  · rw [polyCoef_pscale, hinv, gmul_comm, hmul]
  · rw [polyCoef_pscale, hinv, gmul_comm, hmul']

/-- A word with errors, and few, is no codeword. -/
theorem IsErrors.not_isCodeword (he : IsErrors l y) (hpos : 0 < l.length) (hcard : l.length ≤ k)
    (hsyn : ∀ i, i < k → peval c (gexp i) = errorSeries y l i) : ¬ IsCodeword c k := by
  intro hc
  obtain ⟨b, hb⟩ := List.exists_mem_of_length_pos hpos
  have homegalen := errorEvaluator_length_le y l
  refine he.peval_errorEvaluator_ne_zero hb (peval_eq_zero (fun d => ?_) b)
  obtain hd | hd := Nat.lt_or_ge d k
  · rw [← conv_errorSeries, ← conv_zero_right (polyCoef (errorLocator l)) d]
    exact conv_congr (fun _ _ => rfl) fun i hi => by rw [← hsyn i (by omega), hc i (by omega)]
  · exact polyCoef_eq_zero (by omega)

/-- The number of roots found is the degree of Λ. -/
theorem IsErrors.polyDeg_eq (he : IsErrors l y) (hheld : polyHeld lam)
    (hlam : ∀ d, polyCoef lam d = polyCoef (errorLocator l) d) : polyDeg lam = l.length := by
  have hlen := errorLocator_length l
  have h0 : lam ≠ [0#8] := by
    rintro rfl
    have hone := polyCoef_errorLocator_zero l
    rw [← hlam, polyCoef_zero] at hone
    exact absurd hone (by decide)
  have hle := (eq_zero_or_length_le (n := l.length + 1) hheld fun d hd => by
    rw [hlam, polyCoef_eq_zero (by omega)]).resolve_left h0
  have hlt := roots_length_lt hheld h0 he.nodup fun b hb => by
    rw [peval_congr hlam, (peval_errorLocator_eq_zero_iff he.ne_zero).2 hb]
  rw [polyDeg]
  omega

end

section
variable {s : State} {c w out : List Byte} {k n f : Nat} {lam omega : Poly}

theorem isErrors_errorRoots (hn : c.length ≤ 255) : IsErrors (errorRoots w c) (errorValue w c) where
  ne_zero _ := errorRoots_ne_zero
  nodup := nodup_errorRoots w c
  value_ne_zero _ := errorValue_ne_zero hn

/-- With the errors as magnitudes at their roots, the corrected word is the codeword. -/
theorem rsCorrected_eq (hlen : w.length = c.length) (hn : c.length ≤ 255)
    (homega : ∀ d, polyCoef omega d = polyCoef (errorEvaluator (errorValue w c) (errorRoots w c)) d) :
    rsCorrected c omega (errorRoots w c) = w := by
  have hpos {j : Nat} (hj : j < c.length) : (rsPosition c.length (rootAt c.length j)).getD 0 = j := by
    rw [rsPosition_rootAt hj hn, Option.getD_some]
  have hnodup : ((errorRoots w c).map fun b => (rsPosition c.length b).getD 0).Nodup := by
    refine List.pairwise_map.2 (List.Pairwise.imp_of_mem (fun {a b} ha hb hne h => hne ?_) (nodup_errorRoots w c))
    obtain ⟨i, hi, rfl⟩ := (mem_errorRoots hn).1 ha
    obtain ⟨j, hj, rfl⟩ := (mem_errorRoots hn).1 hb
    rw [hpos (mem_wrongPositions.1 hi).1, hpos (mem_wrongPositions.1 hj).1] at h
    rw [h]
  refine eq_of_getD_eq ((rsCorrected_length c omega _).trans hlen.symm) fun i hi => ?_
  rw [rsCorrected_length] at hi
  by_cases hwrong : i ∈ wrongPositions w c
  · have hroot : rootAt c.length i ∈ errorRoots w c := (mem_errorRoots hn).2 ⟨i, hwrong, rfl⟩
    have hmag : rsMagnitude omega (errorRoots w c) (rootAt c.length i) = gadd (c.getD i 0#8) (w.getD i 0#8) := by
      have he := isErrors_errorRoots (w := w) hn
      rw [rsMagnitude_eq he.ne_zero he.nodup hroot (peval_congr homega _), errorValue_rootAt hi hn]
    have hget := getD_foldl_xorAt_of_mem (c := c) (mag := rsMagnitude omega (errorRoots w c)) hnodup hroot (by rwa [hpos hi])
    rw [hpos hi, hmag, gadd_gadd_cancel] at hget
    exact hget
  · rw [rsCorrected, getD_foldl_xorAt_of_ne, getD_eq_of_not_wrong hi hwrong]
    intro b hb h
    obtain ⟨j, hj, rfl⟩ := (mem_errorRoots hn).1 hb
    rw [hpos (mem_wrongPositions.1 hj).1] at h
    exact hwrong (h ▸ hj)

theorem rsAnswer_of_errors (hlen : w.length = c.length) (hn : c.length ≤ 255) (hheld : polyHeld lam)
    (hlam : ∀ d, polyCoef lam d = polyCoef (errorLocator (errorRoots w c)) d)
    (homega : ∀ d, polyCoef omega d = polyCoef (errorEvaluator (errorValue w c) (errorRoots w c)) d) :
    rsAnswer c lam omega = .ok (w, (wrongPositions w c).length, 1) := by
  have he := isErrors_errorRoots (w := w) hn
  have hroots : rsRoots lam = errorRoots w c := rsRoots_eq_errorRoots fun b => by
    rw [peval_congr hlam, peval_errorLocator_eq_zero_iff he.ne_zero]
  have hdeg := he.polyDeg_eq hheld hlam
  have hpos : ((errorRoots w c).any fun b => (rsPosition c.length b).isNone) = false := by
    refine List.any_eq_false.2 fun b hb => ?_
    obtain ⟨j, hj, rfl⟩ := (mem_errorRoots hn).1 hb
    rw [rsPosition_rootAt (mem_wrongPositions.1 hj).1 hn]
    exact Bool.false_ne_true
  rw [rsAnswer, hroots, if_neg (Decidable.not_not.2 hdeg.symm), hpos, if_neg Bool.false_ne_true, rsCorrected_eq hlen hn homega,
    hdeg, errorRoots_length hn]

/-- At most `⌊k/2⌋` errors are corrected (R338). -/
theorem rsDecode_corrects (hlen : w.length = c.length) (hn : c.length ≤ 255) (hk : k ≤ 255) (hw : IsCodeword w k)
    (hcard : (wrongPositions w c).length ≤ k / 2) :
    rsDecode c k = .ok (w, (wrongPositions w c).length, if (wrongPositions w c).length = 0 then 0 else 1) := by
  by_cases h0 : (wrongPositions w c).length = 0
  · have hnone : wrongPositions w c = [] := List.length_eq_zero_iff.1 h0
    have hwc : w = c := eq_of_getD_eq hlen fun i hi => getD_eq_of_not_wrong (hlen ▸ hi) (hnone ▸ List.not_mem_nil)
    rw [if_pos h0, h0, hwc, rsDecode_of_isCodeword (hwc ▸ hw)]
  · have he := isErrors_errorRoots (w := w) hn
    have hcount := errorRoots_length (w := w) hn
    have hsyn (i : Nat) (hi : i < k) := syndrome_eq_errorSeries hlen hn hw hi
    obtain ⟨lam, omega, steps, hok, hheld, hlam, homega⟩ := he.euclid_finds (by omega) (by omega) hk hsyn
    rw [if_neg h0, rsDecode_of_euclid_ok (he.not_isCodeword (by omega) (by omega) hsyn) hok,
      rsAnswer_of_errors hlen hn hheld hlam homega]

/-! ### RS_DECODE (45_rs.md R337) -/

theorem execRsDecode_of_ok (h1 : 1 ≤ s.argv 1) (h1' : s.argv 1 ≤ Config.nMax) (h2 : s.argv 2 ≤ Config.kMax)
    (hr : s.argv 0 + s.argv 1 ≤ Config.dramBytes) (h : rsDecode (s.memRead (s.argv 0) (s.argv 1)) (s.argv 2) = .ok (out, n, f)) :
    exec .rsDecode s = .next (((s.memWrite (s.argv 0) out).setResNat 0 n).setResNat 1 f).successEnd := by
  rw [exec, execRsDecode, State.requireArg_pos h1 h1', State.requireArg_pos (Nat.zero_le _) h2, State.requireRange_pos hr, h,
    andThen_ok, State.finish_ok]

theorem execRsDecode_of_error {e : Raise} (h1 : 1 ≤ s.argv 1) (h1' : s.argv 1 ≤ Config.nMax) (h2 : s.argv 2 ≤ Config.kMax)
    (hr : s.argv 0 + s.argv 1 ≤ Config.dramBytes) (h : rsDecode (s.memRead (s.argv 0) (s.argv 1)) (s.argv 2) = .error e) :
    exec .rsDecode s = .next (s.errorEnd e) := by
  rw [exec, execRsDecode, State.requireArg_pos h1 h1', State.requireArg_pos (Nat.zero_le _) h2, State.requireRange_pos hr, h,
    andThen_error, State.finish_error]

theorem rsDecode_reportsErrors : s.reportsErrors .rsDecode :=
  State.reportsErrors_of_reports rfl <|
    .requireArg .rfl fun _ => .requireArg (and_iff_right (Nat.zero_le _)) fun _ => .requireRange_last

/-- Bytes written back where they were read change nothing. -/
theorem Memory.read_write_memRead (s : State) (a n x : Nat) :
    Memory.read (Memory.write s.dram a (s.memRead a n)) x = Memory.read s.dram x := by
  by_cases hx : x < a ∨ a + (s.memRead a n).length ≤ x
  · exact Memory.read_write_of_outside s.dram a _ x hx
  · obtain ⟨i, rfl⟩ : ∃ i, x = a + i := ⟨x - a, by omega⟩
    have hi : i < (s.memRead a n).length := by omega
    rw [Memory.read_write_of_inside s.dram a _ i hi, State.memRead_getElem]

end

/-- Settles O37: few errors are found and corrected, and every other word is answered as its roots say. -/
theorem rsDecodeResult : Obligations.RsDecodeResult := by
  intro s
  refine ⟨fun h1 h1' h2 hr => ?_, rsDecode_reportsErrors⟩
  intro c wrong
  have hlen : c.length = s.argv 1 := State.memRead_length s _ _
  have hwrong (w : List Byte) : wrong w = (wrongPositions w c).length := by
    rw [wrongPositions, hlen, ← List.countP_eq_length_filter]
  have hn : c.length ≤ 255 := hlen ▸ h1'
  have hk : s.argv 2 ≤ 255 := Nat.le_trans h2 (by decide)
  refine ⟨fun w hw hcode hcard => ?_, fun hcode => ⟨_, execRsDecode_of_ok h1 h1' h2 hr (rsDecode_of_isCodeword hcode), ?_⟩,
    fun out n f hok => ⟨execRsDecode_of_ok h1 h1' h2 hr hok, (rsDecode_length hok).trans hlen, ?_⟩,
    fun e he => ⟨execRsDecode_of_error h1 h1' h2 hr he, rsDecode_eq_error hk he⟩⟩
  · rw [hwrong] at hcard ⊢
    exact execRsDecode_of_ok h1 h1' h2 hr (rsDecode_corrects (hw.trans hlen.symm) hn hk hcode hcard)
  · exact ⟨by simp, by simp, Memory.read_write_memRead s _ _⟩
  · rw [hwrong]
    exact wrongPositions_rsDecode_length_le hok

end Sys2Proof.Machine
end

section
/-! PROOFS of the statements on the BCH codes and the layout (46_layout_bch.md R370 to R390). A decoder answers the candidate that is
nearer to a copy than every other, and the least distance where every candidate is too far. A template's stamps are pairs of copies
of a code, whose cells are apart from each other and from every later stamp, so each holds its bit in the finished template. -/

namespace Sys2Proof.Machine

/-! ### Distances between codes (46_layout_bch.md R370, R371, R374) -/

theorem hammingDist_comm (a b : Nat) : hammingDist a b = hammingDist b a := by
  rw [hammingDist, Nat.xor_comm, hammingDist]

theorem hammingDist_self (a : Nat) : hammingDist a a = 0 := by simp [hammingDist]

/-- Whatever is counted by one test is counted by one of two tests that cover it. -/
theorem countP_le_add_of_imp {α : Type} {p q r : α → Bool} (h : ∀ a, p a = true → q a = true ∨ r a = true) (l : List α) :
    l.countP p ≤ l.countP q + l.countP r := by
  induction l with
  | nil => simp
  | cons a l ih =>
    simp only [List.countP_cons]
    by_cases hp : p a = true
    · obtain hq | hr := h a hp
      · rw [if_pos hp, if_pos hq]
        omega
      · rw [if_pos hp, if_pos hr]
        omega
    · rw [if_neg hp]
      omega

theorem hammingDist_triangle (a b c : Nat) : hammingDist a c ≤ hammingDist a b + hammingDist b c := by
  refine countP_le_add_of_imp (fun i h => ?_) _
  simp only [Nat.testBit_xor] at *
  revert h
  cases a.testBit i <;> cases b.testBit i <;> cases c.testBit i <;> decide

/-- Two format codes are at least 7 bits apart (R374). -/
theorem fmtcode_apart : ∀ x ∈ fmtCandidates, ∀ y ∈ fmtCandidates, y ≠ x →
    7 ≤ hammingDist (fmtcode x.1 x.2) (fmtcode y.1 y.2) := by decide +kernel

/-- Two version codes are at least 7 bits apart (R375). -/
theorem vercode_apart : ∀ x ∈ verCandidates, ∀ y ∈ verCandidates, y ≠ x → 7 ≤ hammingDist (vercode x) (vercode y) := by
  decide +kernel

/-- Both copies within three bits of a code are nearer to it than to a code seven bits away. -/
theorem copyDist_lt_of_apart {x y c1 c2 : Nat} (h1 : hammingDist x c1 ≤ 3) (h2 : hammingDist x c2 ≤ 3)
    (hxy : 7 ≤ hammingDist x y) : copyDist x c1 c2 < copyDist y c1 c2 := by
  have ht1 := hammingDist_triangle x c1 y
  have ht2 := hammingDist_triangle x c2 y
  rw [hammingDist_comm c1] at ht1
  rw [hammingDist_comm c2] at ht2
  simp only [copyDist]
  omega

/-- A code that is one of the copies is at distance 0. -/
theorem copyDist_eq_zero_of_copy {x c1 c2 : Nat} (h : x = c1 ∨ x = c2) : copyDist x c1 c2 = 0 := by
  obtain rfl | rfl := h
  · rw [copyDist, hammingDist_self, Nat.zero_min]
  · rw [copyDist, hammingDist_self, Nat.min_zero]

/-! ### The nearest candidate (R374, R375) -/

section
variable {α : Type} {dist : α → Nat} {l : List α} {a : α} {best : Option α} {bd : Nat}

/-- The distance found is the least of all. -/
theorem nearest_snd : (nearest dist l best bd).2 = (l.map dist).foldl min bd := by
  induction l generalizing best bd with
  | nil => rfl
  | cons b l ih =>
    rw [nearest, List.map_cons, List.foldl_cons]
    split
    · rw [ih, Nat.min_eq_right (by omega)]
    · rw [ih, Nat.min_eq_left (by omega)]

/-- Where no candidate is nearer, the best so far stays. -/
theorem nearest_of_forall_le (h : ∀ b ∈ l, bd ≤ dist b) : nearest dist l best bd = (best, bd) := by
  induction l with
  | nil => rfl
  | cons b l ih =>
    rw [nearest, if_neg (Nat.not_lt.2 (h b List.mem_cons_self)), ih fun c hc => h c (List.mem_cons_of_mem _ hc)]

/-- A candidate nearer than every other, and than the distance so far, is found. -/
theorem nearest_eq_of_forall_lt (ha : a ∈ l) (hbd : dist a < bd) (hmin : ∀ b ∈ l, b ≠ a → dist a < dist b) :
    nearest dist l best bd = (some a, dist a) := by
  induction l generalizing best bd with
  | nil => cases ha
  | cons b l ih =>
    have hmin' : ∀ c ∈ l, c ≠ a → dist a < dist c := fun c hc => hmin c (List.mem_cons_of_mem _ hc)
    by_cases hba : b = a
    · subst hba
      rw [nearest, if_pos hbd]
      refine nearest_of_forall_le fun c hc => ?_
      by_cases hcb : c = b
      · exact Nat.le_of_eq (congrArg dist hcb.symm)
      · exact Nat.le_of_lt (hmin' c hc hcb)
    · have hal := (List.mem_cons.1 ha).resolve_left (Ne.symm hba)
      have hlt := hmin b List.mem_cons_self hba
      rw [nearest]
      split
      · exact ih hal hlt hmin'
      · exact ih hal hbd hmin'

theorem foldl_min_le_of_mem {l : List Nat} {n b : Nat} (hn : n ∈ l) : l.foldl min b ≤ n := by
  obtain ⟨s, t, rfl⟩ := List.append_of_mem hn
  rw [List.foldl_append, List.foldl_cons, Nat.min_comm, List.foldl_assoc]
  exact Nat.min_le_left _ _

end

section
variable {α : Type} {code : α → Nat} {candidates : List α} {a : α} {bd0 : Nat} {kind : ErrKind} {c1 c2 : Nat}

theorem copyDist_eq_zero_of_find? (h : (candidates.find? fun a => code a == c1 || code a == c2) = some a) :
    copyDist (code a) c1 c2 = 0 :=
  copyDist_eq_zero_of_copy (by simpa using List.find?_some h)

/-- A candidate within three bits of a copy and nearer than every other is the answer. -/
theorem decodeCopies_eq_ok (ha : a ∈ candidates) (hbd0 : 3 < bd0) (h3 : copyDist (code a) c1 c2 ≤ 3)
    (hmin : ∀ b ∈ candidates, b ≠ a → copyDist (code a) c1 c2 < copyDist (code b) c1 c2) :
    decodeCopies code candidates bd0 kind c1 c2 = .ok (a, copyDist (code a) c1 c2) := by
  rw [decodeCopies]
  split
  · rename_i b hb
    have hzero := copyDist_eq_zero_of_find? hb
    have hba : b = a := Classical.byContradiction fun hne => by
      have := hmin b (List.mem_of_find?_eq_some hb) hne
      omega
    rw [← hba, hzero]
  · rw [nearest_eq_of_forall_lt ha (by omega) hmin]
    exact if_pos h3

/-- Where the codes are seven bits apart, three wrong bits in each copy are corrected. -/
theorem decodeCopies_of_close (hapart : ∀ x ∈ candidates, ∀ y ∈ candidates, y ≠ x → 7 ≤ hammingDist (code x) (code y))
    (ha : a ∈ candidates) (hbd0 : 3 < bd0) (h1 : hammingDist (code a) c1 ≤ 3) (h2 : hammingDist (code a) c2 ≤ 3) :
    decodeCopies code candidates bd0 kind c1 c2 = .ok (a, copyDist (code a) c1 c2) :=
  decodeCopies_eq_ok ha hbd0 (Nat.le_trans (Nat.min_le_left _ _) h1) fun b hb hne =>
    copyDist_lt_of_apart h1 h2 (hapart a ha b hb hne)

/-- Where every candidate is more than three bits from both copies, the error tells the least distance. -/
theorem decodeCopies_eq_error (h : ¬ (candidates.map fun a => copyDist (code a) c1 c2).foldl min bd0 ≤ 3) :
    decodeCopies code candidates bd0 kind c1 c2 =
      .error (raise kind ((candidates.map fun a => copyDist (code a) c1 c2).foldl min bd0)) := by
  rw [decodeCopies]
  split
  · rename_i b hb
    have hzero := copyDist_eq_zero_of_find? hb
    have := foldl_min_le_of_mem (b := bd0) (List.mem_map_of_mem (f := fun a => copyDist (code a) c1 c2)
      (List.mem_of_find?_eq_some hb))
    omega
  · rw [← nearest_snd (best := none)] at h ⊢
    generalize nearest (fun a => copyDist (code a) c1 c2) candidates none bd0 = found at h ⊢
    obtain ⟨_ | a, bd⟩ := found
    · rfl
    · exact if_neg h

end

theorem mem_fmtCandidates {e m : Nat} : (e, m) ∈ fmtCandidates ↔ e ≤ 3 ∧ m ≤ 7 := by
  simp [fmtCandidates]
  omega

theorem mem_verCandidates {v : Nat} : v ∈ verCandidates ↔ 7 ≤ v ∧ v ≤ 40 := by
  simp only [verCandidates, List.mem_map, List.mem_range]
  exact ⟨by rintro ⟨i, hi, rfl⟩; omega, fun h => ⟨v - 7, by omega, by omega⟩⟩

section
variable {e m v c1 c2 : Nat}

theorem fmtdecode_of_nearest (he : e ≤ 3) (hm : m ≤ 7) (h3 : copyDist (fmtcode e m) c1 c2 ≤ 3)
    (hmin : ∀ e' m', e' ≤ 3 → m' ≤ 7 → (e', m') ≠ (e, m) → copyDist (fmtcode e m) c1 c2 < copyDist (fmtcode e' m') c1 c2) :
    fmtdecode c1 c2 = .ok ((e, m), copyDist (fmtcode e m) c1 c2) := by
  have hmin' (b : Nat × Nat) (hb : b ∈ fmtCandidates) := hmin b.1 b.2 (mem_fmtCandidates.1 hb).1 (mem_fmtCandidates.1 hb).2
  rw [fmtdecode]
  exact decodeCopies_eq_ok (a := (e, m)) (mem_fmtCandidates.2 ⟨he, hm⟩) (by decide) h3 hmin'

theorem verdecode_of_nearest (h7 : 7 ≤ v) (h40 : v ≤ 40) (h3 : copyDist (vercode v) c1 c2 ≤ 3)
    (hmin : ∀ v', 7 ≤ v' → v' ≤ 40 → v' ≠ v → copyDist (vercode v) c1 c2 < copyDist (vercode v') c1 c2) :
    verdecode c1 c2 = .ok (v, copyDist (vercode v) c1 c2) := by
  have hmin' (b : Nat) (hb : b ∈ verCandidates) := hmin b (mem_verCandidates.1 hb).1 (mem_verCandidates.1 hb).2
  rw [verdecode]
  exact decodeCopies_eq_ok (mem_verCandidates.2 ⟨h7, h40⟩) (by decide) h3 hmin'

theorem fmtdecode_of_close (he : e ≤ 3) (hm : m ≤ 7) (h1 : hammingDist (fmtcode e m) c1 ≤ 3)
    (h2 : hammingDist (fmtcode e m) c2 ≤ 3) : fmtdecode c1 c2 = .ok ((e, m), copyDist (fmtcode e m) c1 c2) := by
  rw [fmtdecode]
  exact decodeCopies_of_close (a := (e, m)) fmtcode_apart (mem_fmtCandidates.2 ⟨he, hm⟩) (by decide) h1 h2

theorem verdecode_of_close (h7 : 7 ≤ v) (h40 : v ≤ 40) (h1 : hammingDist (vercode v) c1 ≤ 3)
    (h2 : hammingDist (vercode v) c2 ≤ 3) : verdecode c1 c2 = .ok (v, copyDist (vercode v) c1 c2) := by
  rw [verdecode]
  exact decodeCopies_of_close vercode_apart (mem_verCandidates.2 ⟨h7, h40⟩) (by decide) h1 h2

end

/-- Settles O48: codes are so far apart that two copies within three bits of one are nearer to it than to every other. -/
theorem bchDecodersCorrect : Obligations.BchDecodersCorrect :=
  ⟨fun _ _ _ _ he hm _ _ => fmtdecode_of_close he hm, fun _ _ _ _ => fmtdecode_of_nearest,
    fun _ _ _ h7 h40 _ _ => verdecode_of_close h7 h40, fun _ _ _ => verdecode_of_nearest⟩

/-! ### The B_* commands, L_FORMAT_READ and L_VERSION_READ (R372, R373, R376, R377, R389, R390) -/

section
variable {s : State} {e m v d : Nat}

theorem execBFormat_of_args (h0 : s.argv 0 ≤ 3) (h1 : s.argv 1 ≤ 7) :
    exec .bFormat s = .next (s.setResNat 0 (fmtcode (s.argv 0) (s.argv 1))).successEnd := by
  rw [exec, execBFormat, State.requireArg_pos (Nat.zero_le _) h0, State.requireArg_pos (Nat.zero_le _) h1, State.finish_ok]

theorem execBVersion_of_args (h7 : 7 ≤ s.argv 0) (h40 : s.argv 0 ≤ Config.versionMax) :
    exec .bVersion s = .next (s.setResNat 0 (vercode (s.argv 0))).successEnd := by
  rw [exec, execBVersion, State.requireArg_pos h7 h40, State.finish_ok]

theorem execBFormatDecode_of_ok (h0 : s.argv 0 ≤ 0x7FFF) (h1 : s.argv 1 ≤ 0x7FFF)
    (h : fmtdecode (s.argv 0) (s.argv 1) = .ok ((e, m), d)) :
    exec .bFormatDecode s = .next (((s.setResNat 0 e).setResNat 1 m).setResNat 2 d).successEnd := by
  rw [exec, execBFormatDecode, State.requireArg_pos (Nat.zero_le _) h0, State.requireArg_pos (Nat.zero_le _) h1, h, andThen_ok,
    State.finish_ok]

theorem execBVersionDecode_of_ok (h0 : s.argv 0 ≤ 0x3FFFF) (h1 : s.argv 1 ≤ 0x3FFFF)
    (h : verdecode (s.argv 0) (s.argv 1) = .ok (v, d)) :
    exec .bVersionDecode s = .next ((s.setResNat 0 v).setResNat 2 d).successEnd := by
  rw [exec, execBVersionDecode, State.requireArg_pos (Nat.zero_le _) h0, State.requireArg_pos (Nat.zero_le _) h1, h, andThen_ok,
    State.finish_ok]

theorem State.isSymbol_iff : s.isSymbol = true ↔ s.height = s.width ∧ isSymbolSize s.width = true := by
  rw [State.isSymbol, Bool.and_eq_true, decide_eq_true_iff]

theorem State.readBits_lt (n : Nat) (cell : Nat → Nat × Nat) : s.readBits n cell < 2 ^ n := rowBits_lt _ _

theorem execLFormatRead_of_ok (hs : s.isSymbol = true)
    (h : fmtdecode (s.readBits 15 fmt1) (s.readBits 15 (fmt2 s.width)) = .ok ((e, m), d)) :
    exec .lFormatRead s = .next ((((s.setResNat 0 e).setResNat 1 m).setResNat 2 d).setResNat 3
      (s.readBits 15 fmt1 + 65536 * s.readBits 15 (fmt2 s.width))).successEnd := by
  have hlt : s.readBits 15 fmt1 < 2 ^ 16 := Nat.lt_trans (State.readBits_lt _ _) (by decide)
  have hpack : s.readBits 15 fmt1 ||| s.readBits 15 (fmt2 s.width) <<< 16 =
      s.readBits 15 fmt1 + 65536 * s.readBits 15 (fmt2 s.width) := by
    rw [Nat.or_comm, ← Nat.shiftLeft_add_eq_or_of_lt hlt, Nat.shiftLeft_eq, Nat.add_comm, Nat.mul_comm]
  rw [← hpack, exec, execLFormatRead, require_of_true hs]
  simp only [h, andThen_ok, State.finish_ok]

theorem execLVersionRead_of_ok (hs : s.isSymbol = true) (hw : 45 ≤ s.width)
    (h : verdecode (s.readBits 18 (ver1 s.width)) (s.readBits 18 (ver2 s.width)) = .ok (v, d)) :
    exec .lVersionRead s = .next ((((s.setResNat 0 v).setResNat 1 (s.readBits 18 (ver1 s.width))).setResNat 2 d).setResNat 3
      (s.readBits 18 (ver2 s.width))).successEnd := by
  rw [exec, execLVersionRead, require_of_true hs, if_neg (by omega)]
  simp only [h, andThen_ok, State.finish_ok]

theorem execLVersionRead_of_small (hs : s.isSymbol = true) (hw : s.width < 45) :
    exec .lVersionRead s =
      .next ((((s.setResNat 0 ((s.width - 17) / 4)).setResNat 1 0).setResNat 2 0).setResNat 3 0).successEnd := by
  rw [exec, execLVersionRead, require_of_true hs, if_pos (by omega), State.finish_ok]

theorem bFormat_reportsErrors : s.reportsErrors .bFormat :=
  State.reportsErrors_of_reports rfl <|
    .requireArg (and_iff_right (Nat.zero_le _)) fun _ => .requireArg_last (and_iff_right (Nat.zero_le _))

theorem bVersion_reportsErrors : s.reportsErrors .bVersion := State.reportsErrors_of_reports rfl <| .requireArg_last .rfl

theorem bFormatDecode_reportsErrors : s.reportsErrors .bFormatDecode :=
  State.reportsErrors_of_reports rfl <|
    .requireArg (and_iff_right (Nat.zero_le _)) fun _ => .requireArg (and_iff_right (Nat.zero_le _)) fun _ =>
      .andThen_last decodeCopies_eq_error

theorem bVersionDecode_reportsErrors : s.reportsErrors .bVersionDecode :=
  State.reportsErrors_of_reports rfl <|
    .requireArg (and_iff_right (Nat.zero_le _)) fun _ => .requireArg (and_iff_right (Nat.zero_le _)) fun _ =>
      .andThen_last decodeCopies_eq_error

theorem lFormatRead_reportsErrors : s.reportsErrors .lFormatRead :=
  State.reportsErrors_of_reports rfl <| .require State.isSymbol_iff fun _ => .andThen_last decodeCopies_eq_error

/-- A symbol below version 7 has no version information, so its row of the table cannot fail. -/
theorem lVersionRead_reportsErrors : s.reportsErrors .lVersionRead :=
  State.reportsErrors_of_reports rfl <| .require State.isSymbol_iff fun _ => by
    by_cases hw : s.width < 45
    · rw [needs_of (.inl hw)]
      nofun
    · rw [if_neg (by omega)]
      exact .andThen_last fun h => decodeCopies_eq_error fun h3 => h (.inr h3)

end

/-- Settles O47: each command's checks one after another, and a decoder's error where its row of the table fails. -/
theorem bchAndSymbolReadResults : Obligations.BchAndSymbolReadResults := by
  intro s
  refine ⟨execBFormat_of_args, execBVersion_of_args, fun e m d => execBFormatDecode_of_ok, fun v d => execBVersionDecode_of_ok,
    fun hsq hsize => ?_, ?_⟩
  · have hs := State.isSymbol_iff.2 ⟨hsq, hsize⟩
    exact ⟨fun e m d => execLFormatRead_of_ok hs, fun v d => execLVersionRead_of_ok hs, execLVersionRead_of_small hs⟩
  · rintro i (rfl | rfl | rfl | rfl | rfl | rfl)
    · exact bFormat_reportsErrors
    · exact bVersion_reportsErrors
    · exact bFormatDecode_reportsErrors
    · exact bVersionDecode_reportsErrors
    · exact lFormatRead_reportsErrors
    · exact lVersionRead_reportsErrors

/-! ### A code stamped twice (R385, R386) -/

/-- Bits `0 .. k-1` put at the cells `f i` and again at the cells `g i`. -/
def Canvas.putCopies (c : Canvas) (f g : Nat → Nat × Nat) (b : Nat → Bool) (k : Nat) : Canvas :=
  (List.range k).foldl (fun c i => (c.put (f i).1 (f i).2 (b i)).put (g i).1 (g i).2 (b i)) c

/-- The cell is defined and has this value. -/
def Canvas.Shows (c : Canvas) (p : Nat × Nat) (b : Bool) : Prop := Plane.get c.d p.1 p.2 = true ∧ Plane.get c.v p.1 p.2 = b

/-- No cell of either copy is a cell of another bit. -/
def CellsApart (f g : Nat → Nat × Nat) (k : Nat) : Prop :=
  ∀ i j, i < j → j < k → f i ≠ f j ∧ f i ≠ g j ∧ g i ≠ f j ∧ g i ≠ g j

section
variable {c c' : Canvas} {n code k i : Nat} {test b b' : Bool} {f g : Nat → Nat × Nat} {bits bits' : Nat → Bool} {p q : Nat × Nat}

theorem Canvas.stampFormat_eq : c.stampFormat n code test =
    (c.putCopies fmt1 (fmt2 n) (fun i => !test && code.testBit i) 15).put 8 (n - 8) (!test) := rfl

theorem Canvas.stampVersion_eq : c.stampVersion n code test =
    c.putCopies (ver1 n) (ver2 n) (fun i => !(test && Config.versionTestLight) && code.testBit i) 18 := rfl

theorem Canvas.putCopies_succ : c.putCopies f g bits (k + 1) =
    ((c.putCopies f g bits k).put (f k).1 (f k).2 (bits k)).put (g k).1 (g k).2 (bits k) := by
  rw [Canvas.putCopies, List.range_succ, List.foldl_append]
  rfl

/-! #### The cells defined (R382) -/

theorem Canvas.put_d_congr {x y : Nat} (h : c.d = c'.d) : (c.put x y b).d = (c'.put x y b').d :=
  congrArg (fun d => Plane.set d x y true) h

theorem Canvas.putCopies_d_congr (h : c.d = c'.d) : (c.putCopies f g bits k).d = (c'.putCopies f g bits' k).d :=
  List.foldl_rel (r := fun c c' : Canvas => c.d = c'.d) h fun _ _ _ _ h => Canvas.put_d_congr (Canvas.put_d_congr h)

/-! #### The values put -/

theorem Canvas.put_shows (hp : p.1 < 256 ∧ p.2 < 256) : (c.put p.1 p.2 b).Shows p b := by
  simp [Canvas.Shows, Canvas.put, Plane.get_set, hp]

/-- A cell keeps its value when another is put, or the same value again. -/
theorem Canvas.Shows.put (h : c.Shows p b) (hb : p = q → b' = b) : (c.put q.1 q.2 b').Shows p b := by
  by_cases hpq : p.1 = q.1 ∧ p.2 = q.2
  · obtain ⟨hd, hv⟩ := h
    simp [Canvas.Shows, Canvas.put, Plane.get_set, hb (Prod.ext hpq.1 hpq.2), hd, hv]
  · simpa [Canvas.Shows, Canvas.put, Plane.get_set, hpq] using h

theorem Canvas.Shows.put_of_ne (h : c.Shows p b) (hne : p ≠ q) : (c.put q.1 q.2 b').Shows p b :=
  h.put fun e => absurd e hne

theorem Canvas.Shows.putCopies (h : c.Shows p b) (hne : ∀ j, j < k → p ≠ f j ∧ p ≠ g j) :
    (c.putCopies f g bits k).Shows p b :=
  List.foldlRecOn (motive := fun c : Canvas => c.Shows p b) _ _ h fun _ hc j hj =>
    have ⟨hf, hg⟩ := hne j (List.mem_range.1 hj)
    (hc.put_of_ne hf).put_of_ne hg

/-- Both copies of a bit stand in their cells. -/
theorem Canvas.putCopies_shows (hapart : CellsApart f g k) (hf : ∀ j, j < k → (f j).1 < 256 ∧ (f j).2 < 256)
    (hg : ∀ j, j < k → (g j).1 < 256 ∧ (g j).2 < 256) (hi : i < k) :
    (c.putCopies f g bits k).Shows (f i) (bits i) ∧ (c.putCopies f g bits k).Shows (g i) (bits i) := by
  induction k with
  | zero => cases hi
  | succ k ih =>
    rw [Canvas.putCopies_succ]
    obtain hlt | rfl := Nat.lt_succ_iff_lt_or_eq.1 hi
    · obtain ⟨hff, hfg, hgf, hgg⟩ := hapart i k hlt (Nat.lt_succ_self k)
      obtain ⟨h1, h2⟩ := ih (fun i j hij hj => hapart i j hij (Nat.lt_succ_of_lt hj))
        (fun j hj => hf j (Nat.lt_succ_of_lt hj)) (fun j hj => hg j (Nat.lt_succ_of_lt hj)) hlt
      exact ⟨(h1.put_of_ne hff).put_of_ne hfg, (h2.put_of_ne hgf).put_of_ne hgg⟩
    · exact ⟨(Canvas.put_shows (hf i hi)).put fun _ => rfl, Canvas.put_shows (hg i hi)⟩

end

/-! ### The template (R378, R382) -/

theorem template_d (v ecc mask : Nat) (test : Bool) : (template v ecc mask test).d = rmap v := by
  have hformat {c : Canvas} {n code code' : Nat} {test test' : Bool} :
      (c.stampFormat n code test).d = (c.stampFormat n code' test').d := Canvas.put_d_congr (Canvas.putCopies_d_congr rfl)
  simp only [rmap, template]
  split
  · exact Canvas.putCopies_d_congr hformat
  · exact hformat

/-- Settles O49: the stamps put the same cells, whatever the values. -/
theorem reservationDependsOnVersion : Obligations.ReservationDependsOnVersion := template_d

/-! ### Where the information stands (R385, R386) -/

section
variable {n i j : Nat}

theorem fmt1_cases (i : Nat) :
    (i ≤ 5 ∧ (fmt1 i).1 = 8 ∧ (fmt1 i).2 = i) ∨ (i = 6 ∧ (fmt1 i).1 = 8 ∧ (fmt1 i).2 = 7) ∨
      (i = 7 ∧ (fmt1 i).1 = 8 ∧ (fmt1 i).2 = 8) ∨ (i = 8 ∧ (fmt1 i).1 = 7 ∧ (fmt1 i).2 = 8) ∨
      (9 ≤ i ∧ (fmt1 i).1 = 14 - i ∧ (fmt1 i).2 = 8) := by
  unfold fmt1
  repeat' split
  all_goals omega

theorem fmt2_cases (n i : Nat) :
    (i ≤ 7 ∧ (fmt2 n i).1 = n - 1 - i ∧ (fmt2 n i).2 = 8) ∨ (8 ≤ i ∧ (fmt2 n i).1 = 8 ∧ (fmt2 n i).2 = n - 15 + i) := by
  unfold fmt2
  split <;> omega

theorem fmt_cellsApart (hn : 21 ≤ n) : CellsApart fmt1 (fmt2 n) 15 := by
  intro i j hij hj
  have hi1 := fmt1_cases i
  have hj1 := fmt1_cases j
  have hi2 := fmt2_cases n i
  have hj2 := fmt2_cases n j
  simp only [ne_eq, Prod.ext_iff]
  exact ⟨by omega, by omega, by omega, by omega⟩

theorem ver_cellsApart (hn : 45 ≤ n) : CellsApart (ver1 n) (ver2 n) 18 := by
  intro i j hij hj
  simp only [ver1, ver2, ne_eq, Prod.ext_iff]
  omega

theorem fmt_ne_darkModule (hn : 21 ≤ n) (hi : i < 15) : fmt1 i ≠ (8, n - 8) ∧ fmt2 n i ≠ (8, n - 8) := by
  have h1 := fmt1_cases i
  have h2 := fmt2_cases n i
  simp only [ne_eq, Prod.ext_iff]
  exact ⟨by omega, by omega⟩

theorem fmt1_ne_ver (hn : 45 ≤ n) (hj : j < 18) : fmt1 i ≠ ver1 n j ∧ fmt1 i ≠ ver2 n j := by
  have h1 := fmt1_cases i
  simp only [ver1, ver2, ne_eq, Prod.ext_iff]
  exact ⟨by omega, by omega⟩

theorem fmt2_ne_ver (hn : 45 ≤ n) (hj : j < 18) : fmt2 n i ≠ ver1 n j ∧ fmt2 n i ≠ ver2 n j := by
  have h2 := fmt2_cases n i
  simp only [ver1, ver2, ne_eq, Prod.ext_iff]
  exact ⟨by omega, by omega⟩

/-- A cell of the matrix is a cell of the plane. -/
theorem cell_lt_planeSide {p : Nat × Nat} (hn : n ≤ 256) (hp : p.1 < n ∧ p.2 < n) : p.1 < 256 ∧ p.2 < 256 := by omega

end

section
variable {c : Canvas} {v n code ecc mask i : Nat} {test : Bool}

theorem Canvas.stampFormat_shows (hn : 21 ≤ n) (hn' : n ≤ 256) (hi : i < 15) :
    (c.stampFormat n code test).Shows (fmt1 i) (!test && code.testBit i) ∧
      (c.stampFormat n code test).Shows (fmt2 n i) (!test && code.testBit i) := by
  obtain ⟨h1, h2⟩ := Canvas.putCopies_shows (c := c) (bits := fun i => !test && code.testBit i) (fmt_cellsApart hn)
    (fun _ _ => cell_lt_planeSide hn' (fmt1_lt hn)) (fun _ hj => cell_lt_planeSide hn' (fmt2_lt hn hj)) hi
  have hne := fmt_ne_darkModule hn hi
  rw [Canvas.stampFormat_eq]
  exact ⟨h1.put_of_ne (q := (8, n - 8)) hne.1, h2.put_of_ne (q := (8, n - 8)) hne.2⟩

theorem Canvas.stampVersion_shows (hn : 45 ≤ n) (hn' : n ≤ 256) (hi : i < 18) :
    (c.stampVersion n code test).Shows (ver1 n i) (!(test && Config.versionTestLight) && code.testBit i) ∧
      (c.stampVersion n code test).Shows (ver2 n i) (!(test && Config.versionTestLight) && code.testBit i) := by
  have hn21 : 21 ≤ n := by omega
  exact Canvas.putCopies_shows (bits := fun i => !(test && Config.versionTestLight) && code.testBit i) (ver_cellsApart hn)
    (fun _ hj => cell_lt_planeSide hn' (ver1_lt hn21 hj)) (fun _ hj => cell_lt_planeSide hn' (ver2_lt hn21 hj)) hi

theorem le_symbolSize_of_versioned (h7 : 7 ≤ v) : 45 ≤ symbolSize v := by
  unfold symbolSize
  omega

theorem template_shows_format (hv : 1 ≤ v) (hv' : v ≤ 40) (hi : i < 15) :
    (template v ecc mask test).Shows (fmt1 i) (!test && (fmtcode ecc mask).testBit i) ∧
      (template v ecc mask test).Shows (fmt2 (symbolSize v) i) (!test && (fmtcode ecc mask).testBit i) := by
  simp only [template]
  split
  · rename_i h7
    have hn := le_symbolSize_of_versioned h7
    obtain ⟨h1, h2⟩ := Canvas.stampFormat_shows (le_symbolSize hv) (symbolSize_le hv') hi
    exact ⟨h1.putCopies fun j hj => fmt1_ne_ver hn hj, h2.putCopies fun j hj => fmt2_ne_ver hn hj⟩
  · exact Canvas.stampFormat_shows (le_symbolSize hv) (symbolSize_le hv') hi

theorem template_shows_version (h7 : 7 ≤ v) (hv' : v ≤ 40) (hi : i < 18) :
    (template v ecc mask test).Shows (ver1 (symbolSize v) i)
        (!(test && Config.versionTestLight) && (vercode v).testBit i) ∧
      (template v ecc mask test).Shows (ver2 (symbolSize v) i)
        (!(test && Config.versionTestLight) && (vercode v).testBit i) := by
  simp only [template]
  rw [if_pos h7]
  exact Canvas.stampVersion_shows (le_symbolSize_of_versioned h7) (symbolSize_le hv') hi

end

/-! ### Results written one after another (10_state.md R38) -/

section
variable {s : State} {i : Fin 4} {n : Nat}

theorem State.res_setResNat_self : (s.setResNat i n).res[i] = BitVec.ofNat 32 n := Vector.getElem_set_self ..

theorem State.res_setResNat_of_ne {j : Nat} {hj : j < 4} (h : i.val ≠ j) : (s.setResNat i n).res[j] = s.res[j] :=
  Vector.getElem_set_ne i.isLt hj h

/-- The first three of four results. -/
theorem State.res_of_fourResults (a b c d : Nat) :
    let t := ((((s.setResNat 0 a).setResNat 1 b).setResNat 2 c).setResNat 3 d).successEnd
    t.res[0] = BitVec.ofNat 32 a ∧ t.res[1] = BitVec.ofNat 32 b ∧ t.res[2] = BitVec.ofNat 32 c := by
  refine ⟨?_, ?_, ?_⟩
  · calc _ = (((s.setResNat 0 a).setResNat 1 b).setResNat 2 c).res[0] := State.res_setResNat_of_ne (by decide)
      _ = ((s.setResNat 0 a).setResNat 1 b).res[0] := State.res_setResNat_of_ne (by decide)
      _ = (s.setResNat 0 a).res[0] := State.res_setResNat_of_ne (by decide)
      _ = _ := State.res_setResNat_self
  · calc _ = (((s.setResNat 0 a).setResNat 1 b).setResNat 2 c).res[1] := State.res_setResNat_of_ne (by decide)
      _ = ((s.setResNat 0 a).setResNat 1 b).res[1] := State.res_setResNat_of_ne (by decide)
      _ = _ := State.res_setResNat_self
  · calc _ = (((s.setResNat 0 a).setResNat 1 b).setResNat 2 c).res[2] := State.res_setResNat_of_ne (by decide)
      _ = _ := State.res_setResNat_self

end

/-! ### L_TEMPLATE and L_RESERVE (R387, R388) -/

/-- The state with a template as its matrix, and the results of L_TEMPLATE. -/
def State.putTemplate (s : State) (v ecc mask : Nat) (test : Bool) : State :=
  ((s.setMatrix (symbolSize v) (symbolSize v) (template v ecc mask test).d (template v ecc mask test).v
    (rmap v)).cancelStream.invalidateCursor.setResNat 0 (symbolSize v)).setResNat 1 (capacity v)

section
variable {s : State}

theorem execLTemplate_of_args (h0 : 1 ≤ s.argv 0) (h0' : s.argv 0 ≤ Config.versionMax) (h1 : s.argv 1 ≤ 3) (h2 : s.argv 2 ≤ 7)
    (h3 : s.argv 3 ≤ 1) :
    exec .lTemplate s =
      .next (s.putTemplate (s.argv 0) (s.argv 1) (s.argv 2) (decide (s.argv 3 = 1))).successEnd := by
  rw [exec, execLTemplate, State.requireArg_pos h0 h0', State.requireArg_pos (Nat.zero_le _) h1,
    State.requireArg_pos (Nat.zero_le _) h2, State.requireArg_pos (Nat.zero_le _) h3]
  rfl

theorem execLReserve_of_args (h0 : 1 ≤ s.argv 0) (h0' : s.argv 0 ≤ Config.versionMax) :
    exec .lReserve s = .next ((State.invalidateCursor { s with rplane := rmap (s.argv 0) }).setResNat 0
      (capacity (s.argv 0))).successEnd := by
  rw [exec, execLReserve, State.requireArg_pos h0 h0', State.finish_ok]

theorem lTemplate_reportsErrors : s.reportsErrors .lTemplate :=
  State.reportsErrors_of_reports rfl <|
    .requireArg .rfl fun _ => .requireArg (and_iff_right (Nat.zero_le _)) fun _ =>
      .requireArg (and_iff_right (Nat.zero_le _)) fun _ => .requireArg_last (and_iff_right (Nat.zero_le _))

theorem lReserve_reportsErrors : s.reportsErrors .lReserve := State.reportsErrors_of_reports rfl <| .requireArg_last .rfl

theorem State.cellcode_beq_zero (x y : Nat) : (s.cellcode x y == 0) = !Plane.get s.dplane x y := by
  rw [State.cellcode]
  cases Plane.get s.dplane x y <;> cases Plane.get s.vplane x y <;> rfl

/-- The cells a template leaves unset are the data modules (R383). -/
theorem State.countCells_putTemplate (v ecc mask : Nat) (test : Bool) :
    countCells (symbolSize v) (symbolSize v) (fun x y => (s.putTemplate v ecc mask test).cellcode x y == 0) = capacity v := by
  refine countCells_congr fun x y _ _ => ?_
  rw [State.cellcode_beq_zero, ← template_d v ecc mask test]
  rfl

end

/-- Settles O50: both commands write `rmap`, which is the plane of the cells the template defines. -/
theorem templateResults : Obligations.TemplateResults := by
  intro s
  refine ⟨fun h0 h0' => ⟨fun h1 h2 h3 => ⟨_, execLTemplate_of_args h0 h0' h1 h2 h3, rfl, rfl, rfl, rfl, rfl,
    (template_d _ _ _ _).symm, ?_, ?_⟩, _, execLReserve_of_args h0 h0', rfl, rfl, State.res0_setResNat _⟩,
    lTemplate_reportsErrors, lReserve_reportsErrors⟩
  · exact (State.res_setResNat_of_ne (by decide)).trans State.res_setResNat_self
  · exact State.res_setResNat_self.trans (congrArg (BitVec.ofNat 32) (State.countCells_putTemplate (s := s) ..).symm)

/-! ### Reading a template back (R389, R390) -/

theorem fmtcode_lt : ∀ e ≤ 3, ∀ m ≤ 7, fmtcode e m < 2 ^ 15 := by decide +kernel

theorem vercode_lt : ∀ v ≤ 40, vercode v < 2 ^ 18 := by decide +kernel

section
variable {e m v : Nat}

theorem fmtdecode_fmtcode (he : e ≤ 3) (hm : m ≤ 7) : fmtdecode (fmtcode e m) (fmtcode e m) = .ok ((e, m), 0) := by
  have hself : hammingDist (fmtcode e m) (fmtcode e m) ≤ 3 := by simp [hammingDist_self]
  rw [fmtdecode_of_close he hm hself hself, copyDist_eq_zero_of_copy (.inl rfl)]

theorem verdecode_vercode (h7 : 7 ≤ v) (h40 : v ≤ 40) : verdecode (vercode v) (vercode v) = .ok (v, 0) := by
  have hself : hammingDist (vercode v) (vercode v) ≤ 3 := by simp [hammingDist_self]
  rw [verdecode_of_close h7 h40 hself hself, copyDist_eq_zero_of_copy (.inl rfl)]

end

section
variable {s t : State} {v ecc mask code k : Nat} {test : Bool} {cell : Nat → Nat × Nat}

/-- A code is read from the cells that show its bits. -/
theorem State.readBits_of_shows (hcode : code < 2 ^ k)
    (h : ∀ i, i < k → Canvas.Shows ⟨t.dplane, t.vplane⟩ (cell i) (code.testBit i)) : t.readBits k cell = code := by
  refine Nat.eq_of_testBit_eq fun i => ?_
  rw [State.readBits, rowBits_testBit]
  by_cases hi : i < k
  · obtain ⟨hd, hv⟩ := h i hi
    simp only [State.dark]
    rw [hd, hv, decide_eq_true hi, Bool.true_and, Bool.true_and]
  · have hlt : code < 2 ^ i := Nat.lt_of_lt_of_le hcode (Nat.pow_le_pow_right (by decide) (Nat.le_of_not_lt hi))
    rw [decide_eq_false hi, Bool.false_and, Nat.testBit_lt_two_pow hlt]

theorem isSymbolSize_symbolSize (hv : 1 ≤ v) (hv' : v ≤ 40) : isSymbolSize (symbolSize v) = true := by
  refine decide_eq_true ?_
  unfold symbolSize
  omega

theorem State.isSymbol_putTemplate (hv : 1 ≤ v) (hv' : v ≤ 40) :
    (s.putTemplate v ecc mask test).successEnd.isSymbol = true :=
  State.isSymbol_iff.2 ⟨rfl, isSymbolSize_symbolSize hv hv'⟩

/-- The format information of a template outside test mode (R385). -/
theorem State.readBits_fmt_putTemplate (hv : 1 ≤ v) (hv' : v ≤ 40) (he : ecc ≤ 3) (hm : mask ≤ 7) :
    (s.putTemplate v ecc mask false).successEnd.readBits 15 fmt1 = fmtcode ecc mask ∧
      (s.putTemplate v ecc mask false).successEnd.readBits 15 (fmt2 (symbolSize v)) = fmtcode ecc mask :=
  have hlt := fmtcode_lt ecc he mask hm
  ⟨State.readBits_of_shows hlt fun _ hi => (template_shows_format hv hv' hi).1,
    State.readBits_of_shows hlt fun _ hi => (template_shows_format hv hv' hi).2⟩

/-- The version information of a template outside test mode (R386). -/
theorem State.readBits_ver_putTemplate (h7 : 7 ≤ v) (hv' : v ≤ 40) :
    (s.putTemplate v ecc mask false).successEnd.readBits 18 (ver1 (symbolSize v)) = vercode v ∧
      (s.putTemplate v ecc mask false).successEnd.readBits 18 (ver2 (symbolSize v)) = vercode v :=
  have hlt := vercode_lt v hv'
  ⟨State.readBits_of_shows hlt fun _ hi => (template_shows_version h7 hv' hi).1,
    State.readBits_of_shows hlt fun _ hi => (template_shows_version h7 hv' hi).2⟩

/-- Both format copies of a template in test mode are light (R385). -/
theorem State.readBits_fmt_putTemplate_test (hv : 1 ≤ v) (hv' : v ≤ 40) :
    (s.putTemplate v ecc mask true).successEnd.readBits 15 fmt1 = 0 ∧
      (s.putTemplate v ecc mask true).successEnd.readBits 15 (fmt2 (symbolSize v)) = 0 :=
  ⟨State.readBits_of_shows (by decide) fun i hi => Nat.zero_testBit i ▸ (template_shows_format hv hv' hi).1,
    State.readBits_of_shows (by decide) fun i hi => Nat.zero_testBit i ▸ (template_shows_format hv hv' hi).2⟩

theorem execLFormatRead_putTemplate (hv : 1 ≤ v) (hv' : v ≤ 40) (he : ecc ≤ 3) (hm : mask ≤ 7) :
    ∃ u, exec .lFormatRead (s.putTemplate v ecc mask false).successEnd = .next u ∧ u.res[0] = BitVec.ofNat 32 ecc ∧
      u.res[1] = BitVec.ofNat 32 mask ∧ u.res[2] = 0#32 := by
  obtain ⟨h1, h2⟩ := State.readBits_fmt_putTemplate (s := s) hv hv' he hm
  refine ⟨_, execLFormatRead_of_ok (State.isSymbol_putTemplate hv hv') (e := ecc) (m := mask) (d := 0) ?_, ?_⟩
  · exact (congr (congrArg fmtdecode h1) h2).trans (fmtdecode_fmtcode he hm)
  · exact State.res_of_fourResults ..

theorem execLVersionRead_putTemplate (hv : 1 ≤ v) (hv' : v ≤ 40) :
    ∃ u, exec .lVersionRead (s.putTemplate v ecc mask false).successEnd = .next u ∧ u.res[0] = BitVec.ofNat 32 v ∧
      u.res[2] = 0#32 := by
  by_cases h7 : 7 ≤ v
  · obtain ⟨h1, h2⟩ := State.readBits_ver_putTemplate (s := s) (ecc := ecc) (mask := mask) h7 hv'
    have hres := State.res_of_fourResults (s := (s.putTemplate v ecc mask false).successEnd) v
    refine ⟨_, execLVersionRead_of_ok (State.isSymbol_putTemplate hv hv') (le_symbolSize_of_versioned h7) (v := v) (d := 0) ?_,
      (hres ..).1, (hres ..).2.2⟩
    exact (congr (congrArg verdecode h1) h2).trans (verdecode_vercode h7 hv')
  · have hwidth : (s.putTemplate v ecc mask false).successEnd.width = 17 + 4 * v := rfl
    have hversion : ((s.putTemplate v ecc mask false).successEnd.width - 17) / 4 = v := by omega
    have hres := State.res_of_fourResults (s := (s.putTemplate v ecc mask false).successEnd) v 0 0 0
    refine ⟨_, execLVersionRead_of_small (State.isSymbol_putTemplate hv hv') (by omega), ?_⟩
    rw [hversion]
    exact ⟨hres.1, hres.2.2⟩

theorem State.ofNat_argv (i : Fin 8) : BitVec.ofNat 32 (s.argv i) = s.arg[i] :=
  (BitVec.ofNat_toNat _ _).trans (BitVec.setWidth_eq _)

end

/-- Settles O51: each bit of the information stands in its cells of the finished template, so the copies read are the codes drawn. -/
theorem templateReadsBack : Obligations.TemplateReadsBack := by
  intro s t h0 h0' h1 h2 h
  have ht (h3 : s.argv 3 ≤ 1) := Host.Outcome.next.inj ((execLTemplate_of_args h0 h0' h1 h2 h3).symm.trans h)
  refine ⟨fun h3 => ?_, fun h3 => ?_⟩
  · rw [← ht (by omega), h3]
    obtain ⟨u, hu, hu0, hu1, hu2⟩ := execLFormatRead_putTemplate (s := s) h0 h0' h1 h2
    obtain ⟨w, hw, hw0, hw2⟩ := execLVersionRead_putTemplate (s := s) (ecc := s.argv 1) (mask := s.argv 2) h0 h0'
    exact ⟨⟨u, hu, hu0.trans (State.ofNat_argv 1), hu1.trans (State.ofNat_argv 2), hu2⟩,
      w, hw, hw0.trans (State.ofNat_argv 0), hw2⟩
  · rw [← ht (by omega), h3]
    exact State.readBits_fmt_putTemplate_test h0 h0'

end Sys2Proof.Machine
end

section
/-! PROOFS of the statements on the penalty and the masks (47_mask_zigzag.md R420 to R428). The balance is a distance from half the
cells, in tenths; a mask changes no plane that says which cells it changes, so a second application meets the same cells. -/

namespace Sys2Proof.Machine

/-! ### M_PENALTY (R423 to R428) -/

section
variable {t d : Nat}

/-- The balance of `t` cells is at most that of cells of one colour (R426). -/
theorem balancePenalty_le (hd : d ≤ t) : balancePenalty t d ≤ 100 := by
  have hdiff : (if 20 * d ≤ 10 * t then 10 * t - 20 * d else 20 * d - 10 * t) ≤ t * 10 := by split <;> omega
  exact Nat.mul_le_mul_left 10 (Nat.div_le_of_le_mul hdiff)

theorem balancePenalty_of_one_colour (ht : 0 < t) (hd : d = 0 ∨ d = t) : balancePenalty t d = 100 := by
  have hdiff : (if 20 * d ≤ 10 * t then 10 * t - 20 * d else 20 * d - 10 * t) = 10 * t := by split <;> omega
  rw [balancePenalty, hdiff, Nat.mul_div_cancel _ ht]

theorem balancePenalty_of_balanced (hlo : 45 * t < 100 * d) (hhi : 100 * d < 55 * t) : balancePenalty t d = 0 := by
  have hdiff : (if 20 * d ≤ 10 * t then 10 * t - 20 * d else 20 * d - 10 * t) < t := by split <;> omega
  rw [balancePenalty, Nat.div_eq_of_lt hdiff]

theorem countCells_le (w h : Nat) (f : Nat → Nat → Bool) : countCells w h f ≤ h * w :=
  countCells_not_add w h f ▸ Nat.le_add_left _ _

end

section
variable {s : State}

/-- The four results of a command that writes them all. -/
theorem State.res_setCursorRes (a b c d : Nat) :
    let t := (s.setCursorRes a b c d).successEnd
    t.res[0] = BitVec.ofNat 32 a ∧ t.res[1] = BitVec.ofNat 32 b ∧ t.res[2] = BitVec.ofNat 32 c ∧ t.res[3] = BitVec.ofNat 32 d :=
  have ⟨h0, h1, h2⟩ := State.res_of_fourResults a b c d
  ⟨h0, h1, h2, State.res_setResNat_self⟩

theorem execMPenalty_of_drawn (hh : 1 ≤ s.height) (hw : 1 ≤ s.width) (hd : s.drawn = true) :
    exec .mPenalty s = .next (s.setCursorRes (penalty s.height s.width s.dark) (penalty1 s.height s.width s.dark)
      (penalty2 s.height s.width s.dark) (penalty3 s.height s.width s.dark)).successEnd := by
  rw [exec, execMPenalty, require_of_true (decide_eq_true ⟨hh, hw⟩), require_of_true hd, State.finish_ok]
  rfl

theorem mPenalty_reportsErrors : s.reportsErrors .mPenalty :=
  State.reportsErrors_of_reports rfl <| .require decide_eq_true_iff fun _ => .require_last .rfl

end

/-- Settles O44: the results are the parts of the penalty, and the balance is measured against a tenth of the cells. -/
theorem penaltyResult : Obligations.PenaltyResult := by
  intro s
  refine ⟨fun hh hw hd => ⟨⟨_, execMPenalty_of_drawn hh hw hd, rfl, ?_⟩, ?_⟩, mPenalty_reportsErrors⟩
  · obtain ⟨h0, h1, h2, h3⟩ := State.res_setCursorRes (s := s) (penalty s.height s.width s.dark)
      (penalty1 s.height s.width s.dark) (penalty2 s.height s.width s.dark) (penalty3 s.height s.width s.dark)
    refine ⟨h1, h2, h3, ?_⟩
    rw [h0, h1, h2, h3, penalty]
    simp only [BitVec.ofNat_add]
  · exact ⟨balancePenalty_le (countCells_le ..), balancePenalty_of_one_colour (Nat.mul_pos hh hw), balancePenalty_of_balanced⟩

/-! ### L_MASK_BIT and L_MASK_APPLY (R420 to R422) -/

section
variable {s : State}

theorem execLMaskBit_of_args (h0 : s.argv 0 ≤ 7) (h1 : s.argv 1 ≤ 255) (h2 : s.argv 2 ≤ 255) :
    exec .lMaskBit s = .next (s.setResNat 0 (maskbit (s.argv 0) (s.argv 1) (s.argv 2)).toNat).successEnd := by
  rw [exec, execLMaskBit, State.requireArg_pos (Nat.zero_le _) h0, State.requireByte_pos h1, State.requireByte_pos h2,
    State.finish_ok]

theorem execLMaskApply_of_args (h0 : s.argv 0 ≤ 7) :
    exec .lMaskApply s = .next (s.applyMask (s.argv 0)).cancelStream.successEnd := by
  rw [exec, execLMaskApply, State.requireArg_pos (Nat.zero_le _) h0, State.finish_ok]

theorem lMaskBit_reportsErrors : s.reportsErrors .lMaskBit :=
  State.reportsErrors_of_reports rfl <|
    .requireArg (and_iff_right (Nat.zero_le _)) fun _ => .requireByte fun _ => .requireByte_last

theorem lMaskApply_reportsErrors : s.reportsErrors .lMaskApply :=
  State.reportsErrors_of_reports rfl <| .requireArg_last (and_iff_right (Nat.zero_le _))

variable (hh : s.height ≤ 256) (hw : s.width ≤ 256)
include hh hw

/-- The cells a mask changes: the drawn cells of the window that are not reserved (R422). -/
theorem State.applyMask_get (m x y : Nat) : Plane.get (s.applyMask m).vplane x y =
    if x < s.width ∧ y < s.height ∧ Plane.get s.rplane x y = false ∧ Plane.get s.dplane x y = true then
      Plane.get s.vplane x y ^^ maskbit m x y
    else Plane.get s.vplane x y := by
  have hsel : (x < s.width ∧ y < s.height ∧ x < 256 ∧ y < 256) ∧
      (!Plane.get s.rplane x y && Plane.get s.dplane x y) = true ↔
      x < s.width ∧ y < s.height ∧ Plane.get s.rplane x y = false ∧ Plane.get s.dplane x y = true := by
    simp only [Bool.and_eq_true, Bool.not_eq_true']
    exact ⟨fun ⟨⟨hx, hy, _⟩, h⟩ => ⟨hx, hy, h⟩, fun ⟨hx, hy, h⟩ => ⟨⟨hx, hy, by omega, by omega⟩, h⟩⟩
  exact (Plane.get_mergeOn ..).trans (by simp only [hsel])

/-- A mask applied twice is undone, since the cells it changes stay the same cells. -/
theorem State.applyMask_applyMask (m : Nat) : ((s.applyMask m).applyMask m).vplane = s.vplane := by
  refine Plane.ext _ _ fun x y _ _ => ?_
  rw [State.applyMask_get (s := s.applyMask m) hh hw, State.applyMask_get hh hw]
  simp only [State.applyMask_width, State.applyMask_height, State.applyMask_rplane, State.applyMask_dplane]
  split <;> simp

end

/-- Settles O52: the second application changes the cells the first one did. -/
theorem maskResults : Obligations.MaskResults := by
  intro s hh hw
  refine ⟨fun h0 => ⟨execLMaskBit_of_args h0, _, execLMaskApply_of_args h0, rfl, rfl, State.applyMask_get hh hw _,
    _, execLMaskApply_of_args (s := (s.applyMask (s.argv 0)).cancelStream.successEnd) h0, rfl, ?_, rfl⟩,
    lMaskBit_reportsErrors, lMaskApply_reportsErrors⟩
  exact State.applyMask_applyMask hh hw (s.argv 0)

end Sys2Proof.Machine
end

section
/-! PROOFS of the statements on the zig-zag sequencer (47_mask_zigzag.md R440 to R446). Which cells a cursor still has before it is
one relation (`Cursor.Walks`), with a step per `advance()`: the start of a column pair walks the pair and the pairs left of it,
every cursor in its matrix walks no more cells than `seek()` has steps, and `seek()` and Z_NEXT step over reserved cells alone. -/

namespace Sys2Proof.Machine

/-! ### The cursor commands (R443 to R446) -/

section
variable {s : State}

theorem execZStart_of_symbol (h0 : s.argv 0 ≤ 7) (hs : s.isSymbol = true) :
    exec .zStart s = .next (State.successEnd
      { s with cursor := ⟨s.width - 1, s.width - 1, .up, false, false, true, Fin.ofNat 8 (s.argv 0)⟩ }) := by
  rw [exec, execZStart, State.requireArg_pos (Nat.zero_le _) h0, require_of_true hs, State.finish_ok]

section
variable (hv : s.cursor.valid = true)
include hv

theorem execZNext_of_done (hd : s.sought.done = true) :
    exec .zNext s = .next (State.setCursorRes { s with cursor := s.sought } 0 0 0 1).successEnd := by
  rw [exec, execZNext, require_of_true hv]
  exact congrArg s.finish (if_pos hd)

variable (hd : s.sought.done = false)
include hd

theorem execZNext_of_cell :
    exec .zNext s = .next (State.setCursorRes { s with cursor := s.sought.advance s.width }
      s.sought.cell.1 s.sought.cell.2 s.sought.maskAt.toNat 0).successEnd := by
  rw [exec, execZNext, require_of_true hv]
  exact congrArg s.finish (if_neg (Bool.eq_false_iff.1 hd))

theorem execZPut_of_cell (h0 : s.argv 0 ≤ 1) :
    exec .zPut s = .next (State.successEnd (State.cancelStream (State.setCursorRes
      { s.putbit s.sought.cell.1 s.sought.cell.2 (decide (s.argv 0 = 1) ^^ s.sought.maskAt) with
        cursor := s.sought.advance s.width }
      s.sought.cell.1 s.sought.cell.2 s.sought.maskAt.toNat (decide (s.argv 0 = 1) ^^ s.sought.maskAt).toNat))) := by
  rw [exec, execZPut, State.requireArg_pos (Nat.zero_le _) h0, require_of_true hv]
  exact congrArg s.finish (require_of_true (by simp [hd]))

theorem execZGet_of_cell (hcell : Plane.get s.dplane s.sought.cell.1 s.sought.cell.2 = true) :
    exec .zGet s = .next (State.setCursorRes { s with cursor := s.sought.advance s.width }
      s.sought.cell.1 s.sought.cell.2 s.sought.maskAt.toNat
      (Plane.get s.vplane s.sought.cell.1 s.sought.cell.2 ^^ s.sought.maskAt).toNat).successEnd := by
  rw [exec, execZGet, require_of_true hv]
  have hgo : (!s.sought.done) = true := by simp [hd]
  simp only [require_of_true hgo, require_of_true hcell, State.finish_ok]

end

theorem zStart_reportsErrors : s.reportsErrors .zStart :=
  State.reportsErrors_of_reports rfl <|
    .requireArg (and_iff_right (Nat.zero_le _)) fun _ => .require_last State.isSymbol_iff

theorem zNext_reportsErrors : s.reportsErrors .zNext := State.reportsErrors_of_reports rfl <| .require_last .rfl

theorem zPut_reportsErrors : s.reportsErrors .zPut :=
  State.reportsErrors_of_reports rfl <|
    .requireArg (and_iff_right (Nat.zero_le _)) fun _ => .require .rfl fun _ => .require_last (Bool.not_eq_true' _).to_iff

theorem zGet_reportsErrors : s.reportsErrors .zGet :=
  State.reportsErrors_of_reports rfl <|
    .require .rfl fun _ => .require (Bool.not_eq_true' _).to_iff fun _ => .require_last .rfl

end

/-- Settles O57: the checks of each command one after another. -/
theorem sequencerResults : Obligations.SequencerResults := by
  intro s
  refine ⟨fun h0 hsq hsize => ⟨_, execZStart_of_symbol h0 (State.isSymbol_iff.2 ⟨hsq, hsize⟩), rfl, rfl, rfl, rfl, rfl, rfl,
    rfl, Nat.mod_eq_of_lt (Nat.lt_succ_of_le h0)⟩, execZNext_of_done, fun hv hd => ⟨execZNext_of_cell hv hd,
    execZPut_of_cell hv hd, execZGet_of_cell hv hd⟩, ?_⟩
  rintro i (rfl | rfl | rfl | rfl)
  · exact zStart_reportsErrors
  · exact zNext_reportsErrors
  · exact zPut_reportsErrors
  · exact zGet_reportsErrors

/-! ### The cells before a cursor (R441) -/

/-- The candidate cells of the cursor, in order, up to the end of the walk (R441). -/
inductive Cursor.Walks (n : Nat) : Cursor → List (Nat × Nat) → Prop
  | done {c : Cursor} (hd : c.done = true) : Walks n c []
  | step {c : Cursor} {l : List (Nat × Nat)} (hd : c.done = false) (hl : Walks n (c.advance n) l) : Walks n c (c.cell :: l)

/-- The rows of the column pair below or above the cursor's, in its direction. -/
def Cursor.rowsLeft (n : Nat) (c : Cursor) : Nat :=
  match c.dir with
  | .up => c.y
  | .down => n - 1 - c.y

/-- A bound on the steps a cursor still has that every step but the last lessens. -/
def Cursor.stepsLeft (n : Nat) (c : Cursor) : Nat := 2 * n * c.xo + 2 * c.rowsLeft n + (!c.j).toNat

section
variable {n k : Nat} {c : Cursor} {l l' : List (Nat × Nat)} {rsv : Plane}

theorem Cursor.Walks.unique (h : c.Walks n l) (h' : c.Walks n l') : l = l' := by
  induction h generalizing l' with
  | done hd =>
    cases h' with
    | done => rfl
    | step hd' => simp [hd] at hd'
  | step hd _ ih =>
    cases h' with
    | done hd' => simp [hd] at hd'
    | step _ hl' => rw [ih hl']

/-- The cells walked are the candidates of that many steps. -/
theorem Cursor.Walks.cells_eq (h : c.Walks n l) : Cursor.cells n l.length c = l := by
  induction h with
  | done => rfl
  | step _ _ ih => exact congrArg _ ih

theorem Cursor.rowsLeft_lt (hc : c.Within n) : c.rowsLeft n < n := by
  obtain ⟨-, -, hy⟩ := hc
  unfold Cursor.rowsLeft
  split <;> omega

/-- Turning into the next pair gives up at least one column, for the rows of the next. -/
theorem Cursor.nextPair_xo_lt (hd : c.nextPair.done = false) : c.nextPair.xo < c.xo := by
  unfold Cursor.nextPair at hd ⊢
  split
  · next hxo => simp [hxo] at hd
  · dsimp only
    split <;> omega

theorem Cursor.nextPair_j : c.nextPair.j = false := by
  unfold Cursor.nextPair
  split <;> rfl

theorem Cursor.stepsLeft_nextPair (hc : c.Within n) (hd : c.nextPair.done = false) : c.nextPair.stepsLeft n < c.stepsLeft n := by
  have hrows := Cursor.rowsLeft_lt (Cursor.within_nextPair hc)
  have hpair : 2 * n * (c.nextPair.xo + 1) ≤ 2 * n * c.xo := Nat.mul_le_mul_left _ (Cursor.nextPair_xo_lt hd)
  simp only [Cursor.stepsLeft, Cursor.nextPair_j, Bool.not_false, Bool.toNat_true]
  rw [Nat.mul_succ] at hpair
  omega

theorem Cursor.advance_of_right (hj : c.j = false) : c.advance n = { c with j := true } := by
  simp [Cursor.advance, hj]

/-- After the left cell of a row comes the next row in the cursor's direction, or the next pair. -/
theorem Cursor.advance_of_left (hj : c.j = true) :
    (∃ y, c.advance n = { c with j := false, y := y } ∧ Cursor.rowsLeft n { c with j := false, y := y } < c.rowsLeft n) ∨
      c.advance n = c.nextPair := by
  rw [Cursor.advance, hj]
  cases hdir : c.dir with
  | up =>
    by_cases hy : 0 < c.y
    · exact .inl ⟨c.y - 1, by simp [hy], by simp only [Cursor.rowsLeft, hdir]; omega⟩
    · exact .inr (by simp [hy])
  | down =>
    by_cases hy : c.y + 1 < n
    · exact .inl ⟨c.y + 1, by simp [hy], by simp only [Cursor.rowsLeft, hdir]; omega⟩
    · exact .inr (by simp [hy])

theorem Cursor.stepsLeft_advance (hc : c.Within n) (hd : (c.advance n).done = false) :
    (c.advance n).stepsLeft n < c.stepsLeft n := by
  cases hj : c.j with
  | false =>
    rw [Cursor.advance_of_right hj]
    simp [Cursor.stepsLeft, Cursor.rowsLeft, hj]
  | true =>
    obtain ⟨y, heq, hrows⟩ | heq := Cursor.advance_of_left (n := n) hj
    · rw [heq, Cursor.stepsLeft, Cursor.stepsLeft, hj]
      simp only [Bool.not_false, Bool.toNat_true]
      omega
    · rw [heq] at hd ⊢
      exact Cursor.stepsLeft_nextPair hc hd

/-- What `seek()` is given is enough steps (log entry 15). -/
theorem Cursor.stepsLeft_lt_fuel (hc : c.Within n) : c.stepsLeft n < c.fuel n := by
  have hrows := Cursor.rowsLeft_lt hc
  have hj := Bool.toNat_le (!c.j)
  calc c.stepsLeft n < 2 * n * (c.xo + 1) := by rw [Cursor.stepsLeft, Nat.mul_succ]; omega
    _ ≤ (2 * (n + c.y) + 4) * (c.xo + 2) := Nat.mul_le_mul (by omega) (by omega)
    _ = c.fuel n := Nat.mul_comm _ _

theorem Cursor.exists_walks (hc : c.Within n) : ∃ l, c.Walks n l ∧ l.length ≤ c.stepsLeft n + 1 := by
  induction hk : c.stepsLeft n using Nat.strongRecOn generalizing c with
  | _ k ih =>
    cases hd : c.done with
    | true => exact ⟨[], .done hd, Nat.zero_le _⟩
    | false =>
      cases hd' : (c.advance n).done with
      | true => exact ⟨[c.cell], .step hd (.done hd'), Nat.le_add_left _ _⟩
      | false =>
        have hlt := Cursor.stepsLeft_advance hc hd'
        obtain ⟨l, hl, hlen⟩ := ih _ (hk ▸ hlt) (Cursor.within_advance hc) rfl
        exact ⟨c.cell :: l, .step hd hl, by simp only [List.length_cons]; omega⟩

theorem Cursor.Walks.length_le_fuel (hc : c.Within n) (h : c.Walks n l) : l.length ≤ c.fuel n := by
  obtain ⟨l', h', hlen⟩ := Cursor.exists_walks hc
  rw [h.unique h']
  exact Nat.le_trans hlen (Cursor.stepsLeft_lt_fuel hc)

end

/-! ### Reserved cells stepped over (R442) -/

/-- The cells of a list that are not reserved. -/
def unreserved (rsv : Plane) (l : List (Nat × Nat)) : List (Nat × Nat) := l.filter fun p => !Plane.get rsv p.1 p.2

section
variable {n k : Nat} {c : Cursor} {l : List (Nat × Nat)} {rsv : Plane} {p : Nat × Nat}

theorem unreserved_cons_of_reserved (hp : Plane.get rsv p.1 p.2 = true) : unreserved rsv (p :: l) = unreserved rsv l :=
  List.filter_cons_of_neg (by simp [hp])

theorem unreserved_cons_of_data (hp : Plane.get rsv p.1 p.2 = false) : unreserved rsv (p :: l) = p :: unreserved rsv l :=
  List.filter_cons_of_pos (by simp [hp])

/-- A cursor at which `seek()` stays: at the end of the walk or at a data cell. -/
def Cursor.Stays (rsv : Plane) (c : Cursor) : Prop := c.done = true ∨ Plane.get rsv c.cell.1 c.cell.2 = false

theorem Cursor.Stays.seekFor_eq (h : c.Stays rsv) : c.seekFor rsv n k = c := by
  cases k with
  | zero => rfl
  | succ k =>
    refine if_neg fun hgo => ?_
    obtain ⟨hd, hcell⟩ := Bool.and_eq_true_iff.1 hgo
    obtain h | h := h <;> simp_all

/-- With as many steps as cells left, `seek()` stops, and the data cells before the cursor are those it had. -/
theorem Cursor.Walks.seekFor (h : c.Walks n l) (hk : l.length ≤ k) :
    (c.seekFor rsv n k).Stays rsv ∧ ∃ l', (c.seekFor rsv n k).Walks n l' ∧ unreserved rsv l' = unreserved rsv l := by
  induction h generalizing k with
  | done hd =>
    have hs : Cursor.Stays rsv _ := .inl hd
    rw [hs.seekFor_eq]
    exact ⟨hs, [], .done hd, rfl⟩
  | @step c l hd hl ih =>
    obtain _ | k := k
    · cases hk
    cases hcell : Plane.get rsv c.cell.1 c.cell.2 with
    | true =>
      have hgo : c.seekFor rsv n (k + 1) = (c.advance n).seekFor rsv n k := if_pos (by simp [hd, hcell])
      rw [hgo, unreserved_cons_of_reserved hcell]
      exact ih (Nat.le_of_succ_le_succ hk)
    | false =>
      have hs : Cursor.Stays rsv c := .inr hcell
      rw [hs.seekFor_eq]
      exact ⟨hs, _, .step hd hl, rfl⟩

theorem Cursor.Walks.seek (hc : c.Within n) (h : c.Walks n l) :
    (c.seek rsv n).Stays rsv ∧ ∃ l', (c.seek rsv n).Walks n l' ∧ unreserved rsv l' = unreserved rsv l :=
  h.seekFor (h.length_le_fuel hc)

end

/-- Settles O56: a cursor in its matrix has no more cells before it than `seek()` has steps. -/
theorem seekFindsDataCell : Obligations.SeekFindsDataCell := by
  intro s hs hv
  have hc := State.cursor_within hs hv
  obtain ⟨l, hl, -⟩ := Cursor.exists_walks hc
  exact (hl.seek hc).1

/-! ### The walk (R440) -/

section
variable {n xo y : Nat} {dir : Dir} {v : Bool} {m : Fin 8} {l : List (Nat × Nat)}

/-- One row of a column pair, right cell first. -/
theorem Cursor.walks_row (h : (Cursor.advance n ⟨xo, y, dir, true, false, v, m⟩).Walks n l) :
    Cursor.Walks n ⟨xo, y, dir, false, false, v, m⟩ ([(xo, y), (xo - 1, y)] ++ l) := .step rfl (.step rfl h)

/-- The rows from `y` upward, then what follows the pair. -/
theorem Cursor.walks_up (h : (Cursor.nextPair ⟨xo, 0, .up, true, false, v, m⟩).Walks n l) (y : Nat) :
    Cursor.Walks n ⟨xo, y, .up, false, false, v, m⟩
      ((List.range (y + 1)).reverse.flatMap (fun y => [(xo, y), (xo - 1, y)]) ++ l) := by
  induction y with
  | zero => exact Cursor.walks_row h
  | succ y ih =>
    rw [List.range_succ, List.reverse_append, List.reverse_singleton, List.singleton_append, List.flatMap_cons, List.append_assoc]
    exact Cursor.walks_row ih

/-- The rows from `y` downward, then what follows the pair. -/
theorem Cursor.walks_down (h : (Cursor.nextPair ⟨xo, n - 1, .down, true, false, v, m⟩).Walks n l) (r : Nat) (hr : y + r + 1 = n) :
    Cursor.Walks n ⟨xo, y, .down, false, false, v, m⟩
      ((List.range' y (r + 1)).flatMap (fun y => [(xo, y), (xo - 1, y)]) ++ l) := by
  induction r generalizing y with
  | zero =>
    obtain rfl : y = n - 1 := by omega
    refine Cursor.walks_row ?_
    simpa [Cursor.advance, show ¬ n - 1 + 1 < n by omega] using h
  | succ r ih =>
    rw [List.range'_succ, List.flatMap_cons, List.append_assoc]
    refine Cursor.walks_row ?_
    simpa [Cursor.advance, show y + 1 < n by omega] using ih (y := y + 1) (by omega)

/-- A cursor at the start of the column pair `xo`. -/
def Cursor.pairStart (n xo : Nat) (up v : Bool) (m : Fin 8) : Cursor :=
  ⟨xo, if up then n - 1 else 0, if up then .up else .down, false, false, v, m⟩

/-- Every row of a column pair, then what follows it. -/
theorem Cursor.walks_pair {up : Bool} (hn : 0 < n) (hlast : xo ≤ 2 → l = [])
    (hnext : 2 < xo → (Cursor.pairStart n (if xo - 2 = 6 then 5 else xo - 2) (!up) v m).Walks n l) :
    (Cursor.pairStart n xo up v m).Walks n (walkPair n xo up ++ l) := by
  have hturn : (Cursor.nextPair ⟨xo, if up then 0 else n - 1, if up then .up else .down, true, false, v, m⟩).Walks n l := by
    by_cases hle : xo ≤ 2
    · rw [hlast hle, Cursor.nextPair, if_pos hle]
      exact .done rfl
    · rw [Cursor.nextPair, if_neg hle]
      cases up <;> exact hnext (Nat.lt_of_not_le hle)
  obtain ⟨r, rfl⟩ : ∃ r, n = r + 1 := ⟨n - 1, by omega⟩
  cases up with
  | true => exact Cursor.walks_up hturn r
  | false =>
    rw [walkPair, if_neg (by decide), List.range_eq_range']
    exact Cursor.walks_down hturn r (Nat.zero_add _ ▸ rfl)

theorem walkFrom_zero (k : Nat) (up : Bool) : walkFrom n k 0 up = [] := by
  cases k <;> rfl

/-- The walk steps over column 6 (R440). -/
theorem walkFrom_skip (k : Nat) (up : Bool) : walkFrom n k (if xo = 6 then 5 else xo) up = walkFrom n k xo up := by
  cases k with
  | zero => rfl
  | succ k =>
    by_cases h6 : xo = 6
    · rw [h6]; rfl
    · rw [if_neg h6]

theorem walkFrom_succ (k : Nat) (up : Bool) (hxo : 0 < xo) (h6 : xo ≠ 6) :
    walkFrom n (k + 1) xo up = walkPair n xo up ++ walkFrom n k (xo - 2) (!up) := by
  rw [walkFrom, if_pos hxo, if_neg h6]

theorem Cursor.walks_walkFrom (hn : 0 < n) (k : Nat) (up : Bool) (hxo : 0 < xo) (hk : xo ≤ k) (h6 : xo ≠ 6) :
    (Cursor.pairStart n xo up v m).Walks n (walkFrom n k xo up) := by
  induction k generalizing xo up with
  | zero => omega
  | succ k ih =>
    rw [walkFrom_succ k up hxo h6]
    refine Cursor.walks_pair hn (fun hle => ?_) fun hlt => ?_
    · rw [show xo - 2 = 0 by omega, walkFrom_zero]
    · rw [← walkFrom_skip]
      exact ih _ (by split <;> omega) (by split <;> omega) (by split <;> omega)

/-- The cursor Z_START sets walks the cells of R440. -/
theorem Cursor.walks_walk (hn : isSymbolSize n = true) (m : Fin 8) :
    Cursor.Walks n ⟨n - 1, n - 1, .up, false, false, true, m⟩ (walk n) := by
  have hsize : 21 ≤ n ∧ n ≤ 177 ∧ n % 4 = 1 := of_decide_eq_true hn
  exact Cursor.walks_walkFrom (by omega) n true (by omega) (by omega) (by omega)

/-! #### Which cells it visits (R440) -/

theorem mem_walkPair {up : Bool} {p : Nat × Nat} : p ∈ walkPair n xo up ↔ (p.1 = xo ∨ p.1 = xo - 1) ∧ p.2 < n := by
  have hrows (y : Nat) : (y ∈ if up = true then (List.range n).reverse else List.range n) ↔ y < n := by
    split <;> simp
  simp only [walkPair, List.mem_flatMap, hrows, List.mem_cons, List.not_mem_nil, or_false, Prod.ext_iff]
  exact ⟨fun ⟨y, hy, h⟩ => by omega, fun ⟨h, hy⟩ => ⟨p.2, hy, by omega⟩⟩

theorem nodup_walkPair (up : Bool) (hxo : 0 < xo) : (walkPair n xo up).Nodup := by
  have hrows : (if up = true then (List.range n).reverse else List.range n).Nodup := by
    split
    · exact List.pairwise_reverse.2 (List.nodup_range.imp Ne.symm)
    · exact List.nodup_range
  refine List.pairwise_flatMap.2 ⟨fun y _ => ?_, hrows.imp fun {a b} hab p hp q hq hpq => ?_⟩
  · have hne : (xo, y) ≠ (xo - 1, y) := fun h => by
      have hx := congrArg Prod.fst h
      dsimp only at hx
      omega
    exact List.nodup_cons.2 ⟨by rwa [List.mem_singleton], List.nodup_cons.2 ⟨List.not_mem_nil, List.nodup_nil⟩⟩
  · simp only [List.mem_cons, List.not_mem_nil, or_false] at hp hq
    have hrow : p.2 = a ∧ q.2 = b := ⟨by obtain rfl | rfl := hp <;> rfl, by obtain rfl | rfl := hq <;> rfl⟩
    exact hab (hrow.1.symm.trans ((congrArg Prod.snd hpq).trans hrow.2))

/-- A column pair the walk comes to: an even one at or right of column 6, or an odd one left of it. -/
def OnWalk (xo : Nat) : Prop := (xo % 2 = 0 ∧ 6 ≤ xo) ∨ (xo % 2 = 1 ∧ xo ≤ 5)

/-- One round of the walk: a pair that is not on column 6, and the pairs left of it. -/
theorem walkFrom_cases {k : Nat} (up : Bool) (hxo : OnWalk xo) :
    ∃ x, 0 < x ∧ x ≤ xo ∧ (x = xo ∨ xo = 6 ∧ x = 5) ∧
      walkFrom n (k + 1) xo up = walkPair n x up ++ walkFrom n k (x - 2) (!up) ∧
      (x = 1 ∨ OnWalk (x - 2)) := by
  unfold OnWalk at *
  rw [← walkFrom_skip]
  refine ⟨if xo = 6 then 5 else xo, ?_, ?_, ?_, walkFrom_succ k up ?_ ?_, ?_⟩ <;> split <;> omega

theorem mem_walkFrom {k : Nat} {up : Bool} {p : Nat × Nat} (hxo : OnWalk xo) (hk : xo ≤ k) :
    p ∈ walkFrom n k xo up ↔ p.1 ≤ xo ∧ p.1 ≠ 6 ∧ p.2 < n := by
  induction k generalizing xo up with
  | zero => unfold OnWalk at hxo; omega
  | succ k ih =>
    obtain ⟨x, h0, hle, hx, heq, hnext⟩ := walkFrom_cases (n := n) (k := k) up hxo
    unfold OnWalk at hxo
    rw [heq, List.mem_append, mem_walkPair]
    obtain rfl | hnext := hnext
    · rw [walkFrom_zero]
      simp only [List.not_mem_nil, or_false]
      omega
    · rw [ih hnext (by omega)]
      unfold OnWalk at hnext
      omega

theorem nodup_walkFrom {k : Nat} {up : Bool} (hxo : OnWalk xo) (hk : xo ≤ k) : (walkFrom n k xo up).Nodup := by
  induction k generalizing xo up with
  | zero => exact List.nodup_nil
  | succ k ih =>
    obtain ⟨x, h0, hle, -, heq, rfl | hnext⟩ := walkFrom_cases (n := n) (k := k) up hxo
    · rw [heq, walkFrom_zero, List.append_nil]
      exact nodup_walkPair up h0
    · rw [heq]
      refine List.nodup_append.2 ⟨nodup_walkPair up h0, ih hnext (by omega), fun p hp q hq hpq => ?_⟩
      rw [mem_walkPair] at hp
      rw [← hpq, mem_walkFrom hnext (by omega)] at hq
      unfold OnWalk at hnext
      omega

section
variable (hn : isSymbolSize n = true)
include hn

theorem onWalk_start : OnWalk (n - 1) := by
  have hsize : 21 ≤ n ∧ n ≤ 177 ∧ n % 4 = 1 := of_decide_eq_true hn
  exact .inl (by omega)

theorem mem_walk {p : Nat × Nat} : p ∈ walk n ↔ p.1 < n ∧ p.2 < n ∧ p.1 ≠ 6 := by
  have hsize : 21 ≤ n ∧ n ≤ 177 ∧ n % 4 = 1 := of_decide_eq_true hn
  rw [walk, mem_walkFrom (onWalk_start hn) (Nat.sub_le _ _)]
  omega

theorem nodup_walk : (walk n).Nodup := nodup_walkFrom (onWalk_start hn) (Nat.sub_le _ _)

end

end

/-- Settles O58: the cursor walks the pairs of the walk row by row, each of them left of the one before. -/
theorem stepFunctionWalks : Obligations.StepFunctionWalks := by
  intro n m hn
  exact ⟨(Cursor.walks_walk hn m).cells_eq, nodup_walk hn, fun x y => mem_walk hn⟩

/-! ### The data modules of a version (R383, R429) -/

/-- A loop establishes for each of its values what the round of that value establishes and every round keeps. -/
theorem foldl_establishes {α β : Type} {P : α → β → Prop} {f : β → α → β} {l : List α} {a : α} (ha : a ∈ l) (b : β)
    (hnew : ∀ b, P a (f b a)) (hkeep : ∀ b a', P a b → P a (f b a')) : P a (l.foldl f b) := by
  induction l generalizing b with
  | nil => cases ha
  | cons a' l ih =>
    obtain rfl | ha := List.mem_cons.1 ha
    · exact List.foldlRecOn l f (hnew b) fun b hb a' _ => hkeep b a' hb
    · exact ih ha _

section
variable {c : Canvas} {x y n code v : Nat} {b test : Bool}

/-- A defined cell stays defined when another is put. -/
theorem Canvas.defined_put {x' y' : Nat} (h : c.defined x y = true) : (c.put x' y' b).defined x y = true := by
  simp only [Canvas.defined, Canvas.put, Plane.get_set] at *
  split
  · rfl
  · exact h

theorem Canvas.defined_put_self (hx : x < 256) (hy : y < 256) : (c.put x y b).defined x y = true := by
  simp [Canvas.defined, Canvas.put, Plane.get_set, hx, hy]

theorem Canvas.defined_putCopies {f g : Nat → Nat × Nat} {bits : Nat → Bool} {k : Nat} (h : c.defined x y = true) :
    (c.putCopies f g bits k).defined x y = true :=
  List.foldlRecOn (motive := fun c : Canvas => c.defined x y = true) _ _ h fun _ hc _ _ =>
    Canvas.defined_put (Canvas.defined_put hc)

/-- The timing pattern defines column 6 (R384). -/
theorem Canvas.defined_stampTiming (hn : n ≤ 256) (hy : y < n) : (c.stampTiming n).defined 6 y = true := by
  refine foldl_establishes (P := fun y (c : Canvas) => c.defined 6 y = true) (List.mem_range.2 hy) _ (fun c => ?_) fun c y' h => ?_
  · split
    · assumption
    · exact Canvas.defined_put_self (by decide) (by omega)
  · split
    · exact h
    · exact Canvas.defined_put h

theorem Canvas.defined_stampFormat (h : c.defined x y = true) : (c.stampFormat n code test).defined x y = true :=
  Canvas.defined_put (Canvas.defined_putCopies h)

/-- Column 6 holds no data module, so the walk may leave it out. -/
theorem rmap_column6 (hv : v ≤ 40) (hy : y < symbolSize v) : Plane.get (rmap v) 6 y = true := by
  simp only [rmap, template]
  split
  · exact Canvas.defined_putCopies (Canvas.defined_stampFormat (Canvas.defined_stampTiming (symbolSize_le hv) hy))
  · exact Canvas.defined_stampFormat (Canvas.defined_stampTiming (symbolSize_le hv) hy)

theorem zz_eq_unreserved (v : Nat) : zz v = unreserved (rmap v) (walk (symbolSize v)) := rfl

theorem mem_zz {p : Nat × Nat} (hv : 1 ≤ v) (hv' : v ≤ 40) :
    p ∈ zz v ↔ p.1 < symbolSize v ∧ p.2 < symbolSize v ∧ Plane.get (rmap v) p.1 p.2 = false := by
  rw [zz_eq_unreserved, unreserved, List.mem_filter, mem_walk (isSymbolSize_symbolSize hv hv'), Bool.not_eq_true']
  refine ⟨fun ⟨⟨hx, hy, _⟩, hr⟩ => ⟨hx, hy, hr⟩, fun ⟨hx, hy, hr⟩ => ⟨⟨hx, hy, fun h6 => ?_⟩, hr⟩⟩
  rw [h6, rmap_column6 hv' hy] at hr
  cases hr

theorem nodup_zz (hv : 1 ≤ v) (hv' : v ≤ 40) : (zz v).Nodup := List.Pairwise.filter _ (nodup_walk (isSymbolSize_symbolSize hv hv'))

/-- The cells of a window, row by row. -/
def windowCells (w h : Nat) : List (Nat × Nat) := (List.range h).flatMap fun y => (List.range w).map fun x => (x, y)

theorem mem_windowCells {w h : Nat} {p : Nat × Nat} : p ∈ windowCells w h ↔ p.1 < w ∧ p.2 < h := by
  simp only [windowCells, List.mem_flatMap, List.mem_map, List.mem_range]
  constructor
  · rintro ⟨y, hy, x, hx, rfl⟩
    exact ⟨hx, hy⟩
  · exact fun ⟨hx, hy⟩ => ⟨p.2, hy, p.1, hx, rfl⟩

theorem nodup_windowCells (w h : Nat) : (windowCells w h).Nodup := by
  refine List.pairwise_flatMap.2 ⟨fun y _ => ?_, List.nodup_range.imp fun {a b} hab p hp q hq hpq => ?_⟩
  · exact List.pairwise_map.2 (List.nodup_range.imp fun hne h => hne (congrArg Prod.fst h))
  · obtain ⟨_, -, rfl⟩ := List.mem_map.1 hp
    obtain ⟨_, -, rfl⟩ := List.mem_map.1 hq
    exact hab (congrArg Prod.snd hpq)

theorem countCells_eq_countP (w h : Nat) (f : Nat → Nat → Bool) : countCells w h f = (windowCells w h).countP fun p => f p.1 p.2 := by
  simp only [countCells, windowCells, List.countP_flatMap, Function.comp_def, List.countP_map]

/-- Cells counted row by row are those of a list without repetitions that has just these cells. -/
theorem countCells_eq_length {w h : Nat} {f : Nat → Nat → Bool} {l : List (Nat × Nat)} (hl : l.Nodup)
    (hmem : ∀ p, p ∈ l ↔ p.1 < w ∧ p.2 < h ∧ f p.1 p.2 = true) : countCells w h f = l.length := by
  have hperm : l.Perm ((windowCells w h).filter fun p => f p.1 p.2) := by
    refine (List.perm_ext_iff_of_nodup hl (List.Pairwise.filter _ (nodup_windowCells w h))).2 fun p => ?_
    rw [hmem, List.mem_filter, mem_windowCells, and_assoc]
  rw [countCells_eq_countP, List.countP_eq_length_filter, hperm.length_eq]

/-- The data modules are as many as the version's capacity (R383). -/
theorem zz_length (hv : 1 ≤ v) (hv' : v ≤ 40) : (zz v).length = capacity v :=
  (countCells_eq_length (nodup_zz hv hv') fun p => by rw [mem_zz hv hv', Bool.not_eq_true']).symm

end

/-! ### Z_NEXT after Z_START (R443, R444) -/

section
variable {s : State} {l : List (Nat × Nat)}

theorem State.nextCells_of_done {k : Nat} (hv : s.cursor.valid = true) (hd : s.sought.done = true) : s.nextCells (k + 1) = [] := by
  obtain ⟨-, -, -, h3⟩ := State.res_setCursorRes (s := { s with cursor := s.sought }) 0 0 0 1
  rw [State.nextCells, execZNext_of_done hv hd]
  exact if_neg (by rw [h3]; decide)

/-- The state Z_NEXT leaves after it has reported a cell. -/
def State.afterNext (s : State) : State :=
  (State.setCursorRes { s with cursor := s.sought.advance s.width } s.sought.cell.1 s.sought.cell.2 s.sought.maskAt.toNat 0).successEnd

theorem State.nextCells_of_cell {k : Nat} (hv : s.cursor.valid = true) (hd : s.sought.done = false)
    (hcell : s.sought.cell.1 < 2 ^ 32 ∧ s.sought.cell.2 < 2 ^ 32) :
    s.nextCells (k + 1) = s.sought.cell :: s.afterNext.nextCells k := by
  obtain ⟨h0, h1, -, h3⟩ := State.res_setCursorRes (s := { s with cursor := s.sought.advance s.width }) s.sought.cell.1
    s.sought.cell.2 s.sought.maskAt.toNat 0
  rw [State.nextCells, execZNext_of_cell hv hd]
  refine (if_pos h3).trans (congrArg (· :: _) (Prod.ext ?_ ?_))
  · dsimp only
    rw [h0, BitVec.toNat_ofNat, Nat.mod_eq_of_lt hcell.1]
  · dsimp only
    rw [h1, BitVec.toNat_ofNat, Nat.mod_eq_of_lt hcell.2]

/-- `seek()` comes to the first data cell before the cursor, or to the end of the walk if there is none. -/
theorem State.sought_cases (hc : s.cursor.Within s.width) (hl : s.cursor.Walks s.width l) :
    (s.sought.done = true ∧ unreserved s.rplane l = []) ∨
      (s.sought.done = false ∧ ∃ l', (s.sought.advance s.width).Walks s.width l' ∧
        unreserved s.rplane l = s.sought.cell :: unreserved s.rplane l') := by
  obtain ⟨hs, l', hl', heq⟩ := hl.seek (rsv := s.rplane) hc
  rw [← heq]
  cases hl' with
  | done hd => exact .inl ⟨hd, rfl⟩
  | step hd hl'' =>
    have hcell := hs.resolve_left (Bool.eq_false_iff.1 hd)
    exact .inr ⟨hd, _, hl'', unreserved_cons_of_data hcell⟩

/-- Z_NEXT reports the data cells before the cursor, and then the end of the walk. -/
theorem State.nextCells_eq {zs : List (Nat × Nat)} (hs : s.cursorWf) (hv : s.cursor.valid = true)
    (hl : s.cursor.Walks s.width l) (hzs : unreserved s.rplane l = zs) : s.nextCells (zs.length + 1) = zs := by
  induction zs generalizing s l with
  | nil =>
    obtain ⟨hd, -⟩ | ⟨-, l', -, heq⟩ := State.sought_cases (State.cursor_within hs hv) hl
    · exact State.nextCells_of_done hv hd
    · simp [heq] at hzs
  | cons z zs ih =>
    obtain ⟨-, heq⟩ | ⟨hd, l', hl', heq⟩ := State.sought_cases (State.cursor_within hs hv) hl
    · simp [heq] at hzs
    · obtain ⟨rfl, hzs'⟩ := List.cons_eq_cons.1 (heq.symm.trans hzs)
      have hsize : 21 ≤ s.width ∧ s.width ≤ 177 ∧ s.width % 4 = 1 := of_decide_eq_true (hs.2.2 hv).2.1
      have hcell := Cursor.cell_lt (State.sought_within hs hv)
      rw [State.nextCells_of_cell hv hd ⟨by omega, by omega⟩]
      exact congrArg _ (ih (s := s.afterNext) (State.cursorWf_sought hs hv).2 (State.sought_advance_valid.trans hv) hl' hzs')

end

/-- Settles O59: the cursor Z_START sets walks the cells of the walk, and the data cells among them are `zz(v)`. -/
theorem nextListsDataModules : Obligations.NextListsDataModules := by
  intro s t v hv hv' hh hw hr h0 h
  have hs : s.isSymbol = true := State.isSymbol_iff.2 ⟨hh.trans hw.symm, hw ▸ isSymbolSize_symbolSize hv hv'⟩
  obtain rfl := Host.Outcome.next.inj ((execZStart_of_symbol h0 hs).symm.trans h)
  refine ⟨?_, zz_length hv hv'⟩
  rw [← zz_length hv hv']
  refine State.nextCells_eq (State.cursorWf_start _ hs) rfl (Cursor.walks_walk (State.isSymbol_iff.1 hs).2 _) ?_
  exact congr (congrArg unreserved hr) (congrArg walk hw)

end Sys2Proof.Machine
end

section
/-! PROOFS of the statements on drawing and reading a symbol (47_mask_zigzag.md R429 to R434). The data modules are the cells of
`zz(v)`, each of them once, so each holds the bit placed there and every other cell what the template put; reading takes the same
cells in the same order, and the mask XORed in twice is undone. -/

namespace Sys2Proof.Machine

/-! ### The mask of least score (R430) -/

/-- Of the masks in `l`, the first of least score, with its score. -/
structure FirstLeast (score : Nat → Nat) (l : List Nat) (r : Nat × Nat) : Prop where
  mem : r.1 ∈ l
  score_eq : r.2 = score r.1
  least : ∀ m ∈ l, score r.1 ≤ score m
  first : ∀ m ∈ l, m < r.1 → score r.1 < score m

theorem leastScore_firstLeast {score : Nat → Nat} {l : List Nat} {b : Nat} (hl : (b :: l).Pairwise (· < ·)) :
    FirstLeast score (b :: l) (leastScore score l (b, score b)) := by
  induction l generalizing b with
  | nil => exact ⟨by simp [leastScore], rfl, by simp [leastScore], by simp [leastScore]⟩
  | cons m l ih =>
    obtain ⟨hb, hml⟩ := List.pairwise_cons.1 hl
    have hbm : b < m := hb m List.mem_cons_self
    rw [leastScore]
    by_cases hlt : score m < score b
    · obtain ⟨hmem, heq, hleast, hfirst⟩ := ih hml
      have hm := hleast m List.mem_cons_self
      rw [if_pos hlt]
      exact ⟨List.mem_cons_of_mem _ hmem, heq, List.forall_mem_cons.2 ⟨by omega, hleast⟩,
        List.forall_mem_cons.2 ⟨fun _ => by omega, hfirst⟩⟩
    · obtain ⟨hmem, heq, hleast, hfirst⟩ := ih (List.pairwise_cons.2 ⟨fun a ha => hb a (List.mem_cons_of_mem _ ha),
        (List.pairwise_cons.1 hml).2⟩)
      rw [if_neg hlt]
      have hbl := hleast b List.mem_cons_self
      have hbf := hfirst b List.mem_cons_self
      obtain ⟨-, hleast⟩ := List.forall_mem_cons.1 hleast
      obtain ⟨-, hfirst⟩ := List.forall_mem_cons.1 hfirst
      refine ⟨?_, heq, ?_, ?_⟩
      · exact (List.mem_cons.1 hmem).elim (fun h => List.mem_cons.2 (.inl h)) fun h => by simp [h]
      · exact List.forall_mem_cons.2 ⟨hbl, List.forall_mem_cons.2 ⟨by omega, hleast⟩⟩
      · exact List.forall_mem_cons.2 ⟨hbf, List.forall_mem_cons.2
          ⟨fun h => Nat.lt_of_lt_of_le (hbf (Nat.lt_trans hbm h)) (Nat.le_of_not_lt hlt), hfirst⟩⟩

section
variable {v ecc m k x y : Nat} {test : Bool} {data : List Byte}

theorem autoMask_firstLeast (v ecc : Nat) (data : List Byte) :
    FirstLeast (trialScore v ecc data) (List.range 8) (autoMask v ecc data) :=
  leastScore_firstLeast (by decide)

theorem chooseMask_of_mask (hm : m ≤ 7) : chooseMask v ecc m data = (m, 0) := if_neg (by omega)

theorem chooseMask_of_auto : chooseMask v ecc 8 data = autoMask v ecc data := if_pos rfl

theorem chooseMask_le (hm : m ≤ 8) : (chooseMask v ecc m data).1 ≤ 7 := by
  obtain hm | rfl := Nat.le_succ_iff.1 hm
  · rwa [chooseMask_of_mask hm]
  · have hmem := (autoMask_firstLeast v ecc data).mem
    rw [chooseMask_of_auto]
    exact Nat.le_of_lt_succ (List.mem_range.1 hmem)

/-! ### Data placed on the template (R429, R432) -/

/-- Placing data leaves every other cell alone. -/
theorem Canvas.place_of_not_mem {cells : List (Nat × Nat)} {bits : List Bool} {c : Canvas} (h : (x, y) ∉ cells) :
    Plane.get (Canvas.place m cells bits c).d x y = Plane.get c.d x y ∧
      Plane.get (Canvas.place m cells bits c).v x y = Plane.get c.v x y := by
  induction cells generalizing bits c with
  | nil => exact ⟨rfl, rfl⟩
  | cons p cells ih =>
    obtain ⟨hne, hmem⟩ := not_or.1 (mt List.mem_cons.2 h)
    have hput : ¬ (p.1 < 256 ∧ p.2 < 256 ∧ x = p.1 ∧ y = p.2) := fun e => hne (Prod.ext e.2.2.1 e.2.2.2)
    rw [Canvas.place, (ih hmem).1, (ih hmem).2, Canvas.put, Plane.get_set, Plane.get_set, if_neg hput, if_neg hput]
    exact ⟨rfl, rfl⟩

/-- Each cell holds its data bit XORed with its mask bit, and 0 for the bit after the last data bit. -/
theorem Canvas.place_shows {cells : List (Nat × Nat)} {bits : List Bool} {c : Canvas} {p : Nat × Nat} (hnodup : cells.Nodup)
    (hin : ∀ p ∈ cells, p.1 < 256 ∧ p.2 < 256) (hk : cells[k]? = some p) :
    (Canvas.place m cells bits c).Shows p (bits.getD k false ^^ maskbit m p.1 p.2) := by
  induction cells generalizing bits c k with
  | nil => simp at hk
  | cons q cells ih =>
    obtain ⟨hq, hnodup⟩ := List.nodup_cons.1 hnodup
    obtain ⟨hq256, hin⟩ := List.forall_mem_cons.1 hin
    cases k with
    | zero =>
      obtain rfl : q = p := by simpa using hk
      obtain ⟨hd, hv⟩ := Canvas.place_of_not_mem (m := m) (bits := bits.tail)
        (c := c.put q.1 q.2 (bits.headD false ^^ maskbit m q.1 q.2)) hq
      obtain ⟨hd', hv'⟩ := Canvas.put_shows (c := c) (b := bits.headD false ^^ maskbit m q.1 q.2) hq256
      refine ⟨hd.trans hd', hv.trans (hv'.trans ?_)⟩
      cases bits <;> rfl
    | succ k =>
      have hbits : bits.getD (k + 1) false = bits.tail.getD k false := by cases bits <;> simp
      rw [Canvas.place, hbits]
      exact ih hnodup hin hk

theorem byteBits_length (b : Byte) : (byteBits b).length = 8 := by simp [byteBits]

theorem byteBits_getD {b : Byte} (hk : k < 8) : (byteBits b).getD k false = b.getLsbD (7 - k) := by
  simp [byteBits, List.getD_eq_getElem?_getD, hk]

/-- The data bits in order, the most significant of each byte first (R432). -/
theorem dataBits_getD (data : List Byte) (k : Nat) : (data.flatMap byteBits).getD k false =
    (decide (k < 8 * data.length) && (data.getD (k / 8) 0#8).getLsbD (7 - k % 8)) := by
  induction data generalizing k with
  | nil => simp
  | cons b data ih =>
    rw [List.flatMap_cons, List.getD_eq_getElem?_getD]
    by_cases hk : k < 8
    · rw [List.getElem?_append_left (by rwa [byteBits_length]), ← List.getD_eq_getElem?_getD, byteBits_getD hk,
        Nat.div_eq_of_lt hk, Nat.mod_eq_of_lt hk,
        decide_eq_true (by rw [List.length_cons]; omega)]
      rfl
    · obtain ⟨k, rfl⟩ : ∃ j, k = j + 8 := ⟨k - 8, by omega⟩
      rw [List.getElem?_append_right (by rw [byteBits_length]; omega), byteBits_length, Nat.add_sub_cancel,
        ← List.getD_eq_getElem?_getD, ih,
        Nat.add_mod_right, Nat.add_div_right k (by decide), List.getD_cons_succ, List.length_cons, Nat.mul_succ]
      simp only [Nat.add_lt_add_iff_right]

/-- A function module of a symbol is that of its template (R429). -/
theorem symbolCanvas_of_reserved (hr : Plane.get (rmap v) x y = true) :
    (symbolCanvas v ecc m test data).defined x y = true ∧
      Plane.get (symbolCanvas v ecc m test data).v x y = Plane.get (template v ecc m test).v x y := by
  have hmem : (x, y) ∉ zz v := fun h => by
    have hfree := (List.mem_filter.1 h).2
    simp [hr] at hfree
  obtain ⟨hd, hv⟩ := Canvas.place_of_not_mem (m := m) (bits := data.flatMap byteBits) (c := template v ecc m test) hmem
  exact ⟨hd.trans (by rw [template_d, hr]), hv⟩

section
variable (hv : 1 ≤ v) (hv' : v ≤ 40)
include hv hv'

theorem symbolCanvas_shows_data {p : Nat × Nat} (hk : (zz v)[k]? = some p) :
    (symbolCanvas v ecc m test data).Shows p
      ((decide (k < 8 * data.length) && (data.getD (k / 8) 0#8).getLsbD (7 - k % 8)) ^^ maskbit m p.1 p.2) := by
  rw [← dataBits_getD]
  exact Canvas.place_shows (nodup_zz hv hv') (fun p hp => cell_lt_planeSide (symbolSize_le hv') (zz_lt hp)) hk

/-- Every cell of a symbol is a function module or a data module. -/
theorem symbolCanvas_defined (hx : x < symbolSize v) (hy : y < symbolSize v) :
    (symbolCanvas v ecc m test data).defined x y = true := by
  cases hr : Plane.get (rmap v) x y with
  | true => exact (symbolCanvas_of_reserved hr).1
  | false =>
    obtain ⟨k, hk⟩ := List.mem_iff_getElem?.1 ((mem_zz (p := (x, y)) hv hv').2 ⟨hx, hy, hr⟩)
    exact (symbolCanvas_shows_data hv hv' hk).1

end

end

/-! ### L_DRAW (R431) -/

/-- The state with a symbol as its matrix, and the results of L_DRAW. -/
def State.putSymbol (s : State) (v ecc : Nat) (ms : Nat × Nat) (data : List Byte) : State :=
  ((s.setMatrix (symbolSize v) (symbolSize v) (symbolCanvas v ecc ms.1 false data).d (symbolCanvas v ecc ms.1 false data).v
    (rmap v)).cancelStream.invalidateCursor.setResNat 0 ms.1).setResNat 1 ms.2

section
variable {s : State}

theorem execLDraw_of_args (h0 : 1 ≤ s.argv 0) (h0' : s.argv 0 ≤ Config.versionMax) (h1 : s.argv 1 ≤ 3) (h2 : s.argv 2 ≤ 8)
    (h3 : s.argv 3 + s.argv 4 ≤ Config.dramBytes) (h4 : 8 * s.argv 4 ≤ capacity (s.argv 0)) :
    exec .lDraw s = .next (s.putSymbol (s.argv 0) (s.argv 1)
      (chooseMask (s.argv 0) (s.argv 1) (s.argv 2) (s.memRead (s.argv 3) (s.argv 4)))
      (s.memRead (s.argv 3) (s.argv 4))).successEnd := by
  rw [exec, execLDraw, State.requireArg_pos h0 h0', State.requireArg_pos (Nat.zero_le _) h1,
    State.requireArg_pos (Nat.zero_le _) h2, State.requireRange_pos h3, require_of_true (decide_eq_true h4)]
  rfl

theorem lDraw_reportsErrors : s.reportsErrors .lDraw :=
  State.reportsErrors_of_reports rfl <|
    .requireArg .rfl fun _ => .requireArg (and_iff_right (Nat.zero_le _)) fun _ =>
      .requireArg (and_iff_right (Nat.zero_le _)) fun _ => .require decide_eq_true_iff fun _ => .require_last decide_eq_true_iff

theorem State.memRead_getD {a n i : Nat} (hi : i < n) : (s.memRead a n).getD i 0#8 = Memory.read s.dram (a + i) := by
  simp [State.memRead, List.getD_eq_getElem?_getD, hi]

theorem State.res_putSymbol (v ecc : Nat) (ms : Nat × Nat) (data : List Byte) :
    (s.putSymbol v ecc ms data).successEnd.res[0] = BitVec.ofNat 32 ms.1 ∧
      (s.putSymbol v ecc ms data).successEnd.res[1] = BitVec.ofNat 32 ms.2 :=
  ⟨(State.res_setResNat_of_ne (by decide)).trans State.res_setResNat_self, State.res_setResNat_self⟩

end

/-- Settles O53: a cell of the symbol is a function module, kept from the template, or the data module of one bit. -/
theorem drawResult : Obligations.DrawResult := by
  intro s
  refine ⟨fun h0 h0' h1 h2 h3 h4 => ?_, lDraw_reportsErrors⟩
  obtain ⟨hr0, hr1⟩ := State.res_putSymbol (s := s) (s.argv 0) (s.argv 1)
    (chooseMask (s.argv 0) (s.argv 1) (s.argv 2) (s.memRead (s.argv 3) (s.argv 4))) (s.memRead (s.argv 3) (s.argv 4))
  refine ⟨_, _, execLDraw_of_args h0 h0' h1 h2 h3 h4, rfl, rfl, rfl, rfl, ?_, chooseMask_le h2, hr0, fun x y hr => ?_,
    fun k c hk => ?_, fun hm => ?_, fun hm => ?_⟩
  · exact State.drawn_iff.2 fun x y => symbolCanvas_defined h0 h0'
  · exact (symbolCanvas_of_reserved hr).2
  · refine (symbolCanvas_shows_data h0 h0' hk).2.trans ?_
    rw [State.memRead_length]
    by_cases hlt : k < 8 * s.argv 4
    · rw [State.memRead_getD (by omega)]
    · rw [decide_eq_false hlt, Bool.false_and, Bool.false_and]
  · rw [chooseMask_of_mask hm] at hr1 ⊢
    exact ⟨rfl, hr1⟩
  · obtain ⟨hmem, heq, hleast, hfirst⟩ := autoMask_firstLeast (s.argv 0) (s.argv 1) (s.memRead (s.argv 3) (s.argv 4))
    rw [hm, chooseMask_of_auto] at hr1 ⊢
    exact ⟨hr1.trans (congrArg _ heq), fun m' hm' => hleast m' (List.mem_range.2 (Nat.lt_succ_of_le hm')), fun m' hm' =>
      hfirst m' (List.mem_range.2 (Nat.lt_trans hm' (List.mem_range.1 hmem))) hm'⟩

/-! ### L_READ (R433, R434) -/

/-- Bit `i` of the number read from a list of bits is the `i`-th from the end. -/
theorem testBit_foldl_reverse (r : List Bool) (i : Nat) :
    (r.reverse.foldl (fun v (b : Bool) => 2 * v + b.toNat) 0).testBit i = r.getD i false := by
  induction r generalizing i with
  | nil => simp
  | cons b r ih =>
    rw [List.reverse_cons, List.foldl_append, List.foldl_cons, List.foldl_nil]
    have hb := Bool.toNat_lt b
    cases i with
    | zero => rw [Nat.testBit_zero, Nat.mul_add_mod, Nat.mod_eq_of_lt hb]; cases b <;> rfl
    | succ i => rw [Nat.testBit_succ, Nat.mul_add_div (by decide), Nat.div_eq_of_lt hb, Nat.add_zero, ih, List.getD_cons_succ]

/-- Eight bits are those of their byte, the most significant first (R433). -/
theorem bitsByte_getLsbD {l : List Bool} {k : Nat} (hl : l.length = 8) (hk : k < 8) :
    (bitsByte l).getLsbD (7 - k) = l.getD k false := by
  have hbit := testBit_foldl_reverse l.reverse (7 - k)
  rw [List.reverse_reverse] at hbit
  rw [bitsByte, BitVec.getLsbD_ofNat, hbit, decide_eq_true (by omega), Bool.true_and, List.getD_eq_getElem?_getD,
    List.getElem?_reverse (by omega), ← List.getD_eq_getElem?_getD, hl]
  congr 1
  omega

theorem packBytes_getD {n j : Nat} {bits : List Bool} (hj : j < n) :
    (packBytes n bits).getD j 0#8 = bitsByte ((bits.drop (8 * j)).take 8) := by
  induction n generalizing j bits with
  | zero => cases hj
  | succ n ih =>
    cases j with
    | zero => rfl
    | succ j =>
      rw [packBytes, List.getD_cons_succ, ih (Nat.lt_of_succ_lt_succ hj), List.drop_drop, Nat.mul_succ, Nat.add_comm 8]

section
variable {s : State}

/-- Each bit of a byte read is the unmasked value of its data module (R433). -/
theorem State.readBytes_getLsbD {v m n j k : Nat} (hn : 8 * n ≤ (zz v).length) (hj : j < n) (hk : k < 8) :
    ∃ c, (zz v)[8 * j + k]? = some c ∧ ((s.readBytes v m n).getD j 0#8).getLsbD (7 - k) = s.unmasked m c := by
  have hlt : 8 * j + k < (zz v).length := by omega
  refine ⟨(zz v)[8 * j + k], List.getElem?_eq_getElem hlt, ?_⟩
  rw [State.readBytes, packBytes_getD hj, bitsByte_getLsbD (by simp; omega) hk, List.getD_eq_getElem?_getD,
    List.getElem?_take_of_lt hk, List.getElem?_drop, List.getElem?_map, List.getElem?_take_of_lt (by omega),
    List.getElem?_eq_getElem hlt]
  rfl

theorem execLRead_of_args (h0 : 1 ≤ s.argv 0) (h0' : s.argv 0 ≤ Config.versionMax) (h1 : s.argv 1 ≤ 7)
    (hsize : s.height = symbolSize (s.argv 0) ∧ s.width = symbolSize (s.argv 0)) (h2 : s.argv 2 + s.argv 3 ≤ Config.dramBytes)
    (h3 : 8 * s.argv 3 ≤ capacity (s.argv 0))
    (hd : ∀ c ∈ (zz (s.argv 0)).take (8 * s.argv 3), Plane.get s.dplane c.1 c.2 = true) :
    exec .lRead s = .next ((s.memWrite (s.argv 2) (s.readBytes (s.argv 0) (s.argv 1) (s.argv 3))).setResNat 0
      (s.argv 3)).successEnd := by
  rw [exec, execLRead, State.requireArg_pos h0 h0', State.requireArg_pos (Nat.zero_le _) h1,
    require_of_true (decide_eq_true hsize), State.requireRange_pos h2, require_of_true (decide_eq_true h3),
    require_of_true (List.all_eq_true.2 hd), State.finish_ok]

theorem lRead_reportsErrors : s.reportsErrors .lRead :=
  State.reportsErrors_of_reports rfl <|
    .requireArg .rfl fun _ => .requireArg (and_iff_right (Nat.zero_le _)) fun _ => .require decide_eq_true_iff fun _ =>
      .require decide_eq_true_iff fun _ => .require decide_eq_true_iff fun _ => .require_last .rfl

end

/-- Settles O54: the bytes written are packed from the unmasked data modules, eight to a byte. -/
theorem readResult : Obligations.ReadResult := by
  intro s
  refine ⟨fun h0 h0' h1 hh hw h2 h3 hd => ⟨_, execLRead_of_args h0 h0' h1 ⟨hh, hw⟩ h2 h3 hd, rfl, ?_, fun j hj k hk => ?_,
    fun a ha => ?_⟩, lRead_reportsErrors⟩
  · exact (State.res0_setResNat _).trans (State.ofNat_argv 3)
  · obtain ⟨c, hc, hbit⟩ := State.readBytes_getLsbD (s := s) (m := s.argv 1) (zz_length h0 h0' ▸ h3) hj hk
    refine ⟨c, hc, ?_⟩
    rw [← State.unmasked, ← hbit]
    simp [Memory.read_write, State.readBytes, packBytes_length, hj]
  · exact Memory.read_write_of_outside _ _ _ _ (by rwa [State.readBytes, packBytes_length])

/-! ### Drawing, then reading (R431, R434) -/

/-- The state in which L_READ reads back a symbol with the mask `m` in ARG1, the destination `dst` and the count `n`. -/
def State.withReadArgs (s : State) (m dst n : Word) : State := { s with arg := ((s.arg.set 1 m).set 2 dst).set 3 n }

theorem State.argv_withReadArgs (s : State) (m dst n : Word) :
    (s.withReadArgs m dst n).argv 0 = s.argv 0 ∧ (s.withReadArgs m dst n).argv 1 = m.toNat ∧
      (s.withReadArgs m dst n).argv 2 = dst.toNat ∧ (s.withReadArgs m dst n).argv 3 = n.toNat := by
  have harg (i : Fin 8) : (s.withReadArgs m dst n).arg[i] =
      if 3 = i.val then n else if 2 = i.val then dst else if 1 = i.val then m else s.arg[i] := by
    simp only [State.withReadArgs, Fin.getElem_fin, Vector.getElem_set]
  exact ⟨congrArg BitVec.toNat (harg 0), congrArg BitVec.toNat (harg 1), congrArg BitVec.toNat (harg 2),
    congrArg BitVec.toNat (harg 3)⟩

/-- Settles O55: the mask XORed into each data module by L_DRAW is undone by L_READ. -/
theorem drawThenRead : Obligations.DrawThenRead := by
  intro s t dst h0 h0' h1 h2 h3 h4 hdst h
  obtain ⟨t', m, ht, -, hh, hw, -, hdrawn, hm, hres, -, hdata, -⟩ := (drawResult s).1 h0 h0' h1 h2 h3 h4
  obtain rfl : t = t' := Host.Outcome.next.inj (h.symm.trans ht)
  obtain ⟨ha0, ha1, ha2, ha3⟩ := State.argv_withReadArgs t t.res[0] dst t.arg[4]
  obtain ⟨-, -, harg, -⟩ := frameOfRegisters .lDraw s t h
  have hm' : t.res[0].toNat = m := by
    rw [hres, BitVec.toNat_ofNat, Nat.mod_eq_of_lt (by omega)]
  have hargv (i : Fin 8) : t.argv i = s.argv i := by rw [State.argv, harg, State.argv]
  have hread := (readResult (t.withReadArgs t.res[0] dst t.arg[4])).1
  have ha3' : (t.withReadArgs t.res[0] dst t.arg[4]).argv 3 = s.argv 4 := ha3.trans (hargv 4)
  rw [ha0, hargv, ha1, hm', ha2, ha3'] at hread
  obtain ⟨u, hu, -, -, hbits, -⟩ := hread h0 h0' hm hh hw hdst h4 fun c hc => by
    have hlt := zz_lt (List.mem_of_mem_take hc)
    exact State.drawn_iff.1 hdrawn c.1 c.2 (hw ▸ hlt.1) (hh ▸ hlt.2)
  refine ⟨u, hu, fun j hj => BitVec.eq_of_getLsbD_eq fun i hi => ?_⟩
  obtain ⟨c, hc, hbit⟩ := hbits j hj (7 - i) (by omega)
  calc _ = (Memory.read u.dram (dst.toNat + j)).getLsbD (7 - (7 - i)) := by rw [show 7 - (7 - i) = i by omega]
    _ = (Plane.get t.vplane c.1 c.2 ^^ maskbit m c.1 c.2) := hbit
    _ = (Memory.read s.dram (s.argv 3 + j)).getLsbD i := by
      rw [hdata _ c hc, decide_eq_true (by omega), show (8 * j + (7 - i)) / 8 = j by omega,
        show 7 - (8 * j + (7 - i)) % 8 = i by omega, Bool.true_and, Bool.xor_assoc, Bool.xor_self, Bool.xor_false]

end Sys2Proof.Machine
end

section
/-! PROOFS of the statements on the two ends of a command (60_exceptions.md R472, R473, R475, R480). What either end leaves in
STATUS is read off the writes a command may make (`Writes`); a row of the table of first errors none of whose checks fails leaves
the rule nothing to raise (`State.completes`). -/

namespace Sys2Proof.Machine

/-! ### The two ends (60_exceptions.md R472, R473) -/

section
variable {s t : State}

/-- Every command ends, in every state (70_reset_and_hazards.md R536). -/
theorem exec_ends (i : Instr) (s : State) : ∃ t, exec i s = .next t := by
  obtain ⟨r, hr, -⟩ := exec_performs i s
  rw [hr]
  cases r with
  | ok u => exact ⟨_, State.finish_ok⟩
  | error e => exact ⟨_, State.finish_error⟩

/-- Either end leaves BUSY 0 and DONE 1, and no command writes IRQ_EN. -/
theorem exec_leaves_done {i : Instr} (h : exec i s = .next t) :
    t.status.busy = false ∧ t.status.done = true ∧ t.irqEn = s.irqEn := by
  obtain ⟨u, hu, rfl⟩ | ⟨e, rfl⟩ := exec_cases h
  · obtain ⟨-, -, hirq, -⟩ := hu.untouched
    exact ⟨rfl, rfl, hirq⟩
  · exact ⟨rfl, rfl, rfl⟩

/-- Without an error the rest of STATUS is as it was (R473). -/
theorem exec_status_of_no_error {i : Instr} (h : exec i s = .next t) (ht : t.status.err = false) :
    t.status = { s.status with busy := false, done := true } := by
  obtain ⟨u, hu, rfl⟩ | ⟨e, rfl⟩ := exec_cases h
  · obtain ⟨-, -, -, hstatus, -⟩ := hu.untouched
    rw [State.successEnd_status, hstatus]
  · cases ht

/-- A command in flight that raises takes the error end, whether its word decodes or not (R472). -/
theorem State.runCommand_eq_errorEnd (hs : s.status.err = false) (h : s.runCommand = .next t) (ht : t.status.err = true) :
    ∃ e, t = s.errorEnd e := by
  rw [State.runCommand] at h
  split at h
  · exact ⟨_, (Host.Outcome.next.inj h).symm⟩
  · obtain ⟨u, hu, rfl⟩ | he := exec_cases h
    · simp [hu.status_err, hs] at ht
    · exact he

/-! ### The interrupt output (60_exceptions.md R480) -/

theorem State.irq_of_done (hd : s.status.done = true) : s.irq = s.irqEn := by rw [State.irq, hd, Bool.and_true]

/-- The host clears DONE by writing its bit. -/
theorem State.irq_writeStatus {d : Word} (hd : d.getLsbD 1 = true) : (s.writeStatus d).irq = false := by
  simp [State.irq, Status.clear, hd]

theorem State.irq_accept (w : Word) : (s.accept w).irq = false := Bool.and_false _

end

/-- Settles O8: both decoding and the rule raise by the error end, and a successful end leaves ERR 0. -/
theorem errorEndChangesOnlyStatus : Obligations.ErrorEndChangesOnlyStatus := by
  intro s t hs h ht
  obtain ⟨e, rfl⟩ := State.runCommand_eq_errorEnd hs h ht
  exact ⟨e.kind, e.info, rfl⟩

/-! ### A command none of whose checks fails (60_exceptions.md R475) -/

/-- The command ends without raising: ERR is as it was. -/
def State.completes (s : State) (i : Instr) : Prop := ∃ t, exec i s = .next t ∧ t.status.err = s.status.err

theorem State.completes.err_eq {s t : State} {i : Instr} (hc : s.completes i) (h : exec i s = .next t) :
    t.status.err = s.status.err := by
  obtain ⟨u, hu, herr⟩ := hc
  rwa [Host.Outcome.next.inj (h.symm.trans hu)]

section
variable {s : State} {rd rs1 rs2 : PReg}

theorem pMul_completes (h : s.getPoly rs1 = [0#8] ∨ s.getPoly rs2 = [0#8] ∨
    (s.getPoly rs1).length + (s.getPoly rs2).length - 1 ≤ 256) : s.completes (.pMul rd rs1 rs2) := by
  obtain ⟨p, hp⟩ := pmul_fits h
  exact ⟨_, execPMul_of_ok hp, rfl⟩

theorem pMulmono_completes (h0 : s.argv 0 ≤ 255) (h1 : s.argv 1 ≤ 255)
    (h : s.getPoly rs1 = [0#8] ∨ s.argv 1 = 0 ∨ (s.getPoly rs1).length + s.argv 0 ≤ 256) :
    s.completes (.pMulmono rd rs1) := by
  rw [← argByte_eq_zero_iff h1] at h
  obtain ⟨p, hp⟩ := pmulmono_fits h
  exact ⟨_, execPMulmono_of_ok h0 h1 hp, rfl⟩

theorem rsEncode_completes (h2 : s.argv 2 ≤ Config.kMax) (h1 : s.argv 1 + s.argv 2 ≤ Config.nMax)
    (hsrc : s.argv 0 + s.argv 1 ≤ Config.dramBytes) (hdst : s.argv 3 + s.argv 2 ≤ Config.dramBytes) :
    s.completes .rsEncode := by
  obtain ⟨p, hp, -⟩ := rsEncode_makes_codeword (d := s.memRead (s.argv 0) (s.argv 1)) (by rwa [State.memRead_length])
  exact ⟨_, execRsEncode_of_ok h2 h1 hsrc hdst hp, rfl⟩

end

/-! #### The nearest-codeword decoders (46_layout_bch.md R374, R375) -/

/-- Where no candidate is taken, the distance is still the one it began with. -/
theorem nearest_of_fst_eq_none {α : Type} {dist : α → Nat} {l : List α} {best : Option α} {bd : Nat}
    (h : (nearest dist l best bd).1 = none) : best = none ∧ (nearest dist l best bd).2 = bd := by
  induction l generalizing best bd with
  | nil => exact ⟨h, rfl⟩
  | cons b l ih =>
    rw [nearest] at h ⊢
    split at h
    · exact absurd (ih h).1 nofun
    · next hge =>
      rw [if_neg hge]
      exact ih h

/-- Where the least distance is within three bits, the decoder answers. -/
theorem decodeCopies_answers {α : Type} {code : α → Nat} {candidates : List α} {bd0 : Nat} {kind : ErrKind} {c1 c2 : Nat}
    (hbd0 : 3 < bd0) (h : (candidates.map fun a => copyDist (code a) c1 c2).foldl min bd0 ≤ 3) :
    ∃ a d, decodeCopies code candidates bd0 kind c1 c2 = .ok (a, d) := by
  rw [decodeCopies]
  split
  · exact ⟨_, _, rfl⟩
  · rw [← nearest_snd (best := none)] at h
    split
    · next a bd hfound =>
      rw [hfound] at h
      exact ⟨_, _, if_pos h⟩
    · next bd hfound =>
      rw [(nearest_of_fst_eq_none (congrArg Prod.fst hfound)).2] at h
      exact absurd h (Nat.not_le.2 hbd0)

section
variable {s : State} {c1 c2 : Nat}

theorem fmtdecode_answers (h : fmtLeast c1 c2 ≤ 3) : ∃ e m d, fmtdecode c1 c2 = .ok ((e, m), d) := by
  obtain ⟨⟨e, m⟩, d, hok⟩ := decodeCopies_answers (kind := .wrongFormatPattern) (by decide) h
  exact ⟨e, m, d, hok⟩

theorem verdecode_answers (h : verLeast c1 c2 ≤ 3) : ∃ v d, verdecode c1 c2 = .ok (v, d) :=
  decodeCopies_answers (by decide) h

theorem bFormatDecode_completes (h0 : s.argv 0 ≤ 0x7FFF) (h1 : s.argv 1 ≤ 0x7FFF) (h : fmtLeast (s.argv 0) (s.argv 1) ≤ 3) :
    s.completes .bFormatDecode := by
  obtain ⟨e, m, d, hok⟩ := fmtdecode_answers h
  exact ⟨_, execBFormatDecode_of_ok h0 h1 hok, rfl⟩

theorem bVersionDecode_completes (h0 : s.argv 0 ≤ 0x3FFFF) (h1 : s.argv 1 ≤ 0x3FFFF)
    (h : verLeast (s.argv 0) (s.argv 1) ≤ 3) : s.completes .bVersionDecode := by
  obtain ⟨v, d, hok⟩ := verdecode_answers h
  exact ⟨_, execBVersionDecode_of_ok h0 h1 hok, rfl⟩

theorem lFormatRead_completes (hs : s.isSymbol = true)
    (h : fmtLeast (s.readBits 15 fmt1) (s.readBits 15 (fmt2 s.width)) ≤ 3) : s.completes .lFormatRead := by
  obtain ⟨e, m, d, hok⟩ := fmtdecode_answers h
  exact ⟨_, execLFormatRead_of_ok hs hok, rfl⟩

theorem lVersionRead_completes (hs : s.isSymbol = true)
    (h : s.width < 45 ∨ verLeast (s.readBits 18 (ver1 s.width)) (s.readBits 18 (ver2 s.width)) ≤ 3) :
    s.completes .lVersionRead := by
  by_cases hw : s.width < 45
  · exact ⟨_, execLVersionRead_of_small hs hw, rfl⟩
  · obtain ⟨v, d, hok⟩ := verdecode_answers (h.resolve_left hw)
    exact ⟨_, execLVersionRead_of_ok hs (Nat.le_of_not_lt hw) hok, rfl⟩

end

/-! #### Every command -/

section
variable {s : State}

/-- Z_NEXT has one check: at the end of the walk it reports the end (47_mask_zigzag.md R444). -/
theorem zNext_completes (hv : s.cursor.valid = true) : s.completes .zNext := by
  cases hd : s.sought.done with
  | true => exact ⟨_, execZNext_of_done hv hd, rfl⟩
  | false => exact ⟨_, execZNext_of_cell hv hd, rfl⟩

/-- A command whose row of the table names no error raises none. -/
theorem State.completes_of_firstError_eq_none {i : Instr} (h : s.firstError i = none) (hrs : i ≠ .rsDecode)
    (hpe : ∀ rd rd2 rs1 rs2, i ≠ .pEuclid rd rd2 rs1 rs2) : s.completes i := by
  cases i with simp only [State.firstError, Option.orElse_eq_none, needs_eq_none] at h
  | nop | sStreamCancel | gfExp | pAdd | mNegate | mTranspose | mPopcount => exact ⟨_, rfl, rfl⟩
  | gfAdd => exact ⟨_, execGfAdd_of_bytes h.1 h.2, rfl⟩
  | gfMul => exact ⟨_, execGfMul_of_bytes h.1 h.2, rfl⟩
  | gfInv => exact ⟨_, execGfInv_of_ne_zero h.1 h.2, rfl⟩
  | gfPow => exact ⟨_, execGfPow_of_byte h, rfl⟩
  | gfLog => exact ⟨_, execGfLog_of_ne_zero h.1 h.2, rfl⟩
  | pLoad =>
    obtain ⟨⟨hlow, hhigh⟩, hrange⟩ := h
    exact ⟨_, execPLoad_of_range hlow hhigh hrange, rfl⟩
  | pStore => exact ⟨_, execPStore_of_range h, rfl⟩
  | pMono => exact ⟨_, execPMono_of_bytes h.1 h.2, rfl⟩
  | pMul => exact pMul_completes h
  | pScale => exact ⟨_, execPScale_of_byte h, rfl⟩
  | pMulmono =>
    obtain ⟨hbyte, hbyte', hfits⟩ := h
    exact pMulmono_completes hbyte hbyte' hfits
  | pRem => exact ⟨_, execPRem_of_ok (pdivmod_eq _ h), rfl⟩
  | pEval => exact ⟨_, execPEval_of_byte h, rfl⟩
  | pGen => exact ⟨_, execPGen_of_byte h, rfl⟩
  | pEuclid => exact absurd rfl (hpe _ _ _ _)
  | rsEncode =>
    obtain ⟨hk, hn, hsrc, hdst⟩ := h
    exact rsEncode_completes hk hn hsrc hdst
  | rsSyndrome =>
    obtain ⟨⟨hlow, hhigh⟩, hk, hsrc, hdst⟩ := h
    exact ⟨_, execRsSyndrome_of_checks hlow hhigh hk hsrc hdst, rfl⟩
  | rsDecode => exact absurd rfl hrs
  | mNew =>
    obtain ⟨⟨hlow, hhigh⟩, hlow', hhigh'⟩ := h
    exact ⟨_, execMNew_of_dims hlow hhigh hlow' hhigh', rfl⟩
  | mSet =>
    obtain ⟨hx, hy, hcode⟩ := h
    obtain ⟨x, hx⟩ := inside_iff_resolve.1 hx
    obtain ⟨y, hy⟩ := inside_iff_resolve.1 hy
    exact ⟨_, execMSet_of_resolve hx hy hcode, by simp⟩
  | mGet =>
    obtain ⟨x, hx⟩ := inside_iff_resolve.1 h.1
    obtain ⟨y, hy⟩ := inside_iff_resolve.1 h.2
    exact ⟨_, execMGet_of_resolve hx hy, rfl⟩
  | mRect =>
    obtain ⟨hx, hy, hcode⟩ := h
    obtain ⟨x, hx⟩ := inside_iff_resolve.1 hx
    obtain ⟨y, hy⟩ := inside_iff_resolve.1 hy
    exact ⟨_, execMRect_of_resolve hx hy hcode, by simp⟩
  | mBorder =>
    obtain ⟨⟨hheight, hwidth⟩, hlow, hhigh⟩ := h
    exact ⟨_, execMBorder_of_dims hheight hwidth hlow hhigh, rfl⟩
  | mCountPattern =>
    obtain ⟨hy, ⟨hlow, hhigh⟩, hnp, hp0, hp1⟩ := h
    obtain ⟨y, hy⟩ := inside_iff_resolve.1 hy
    exact ⟨_, execMCountPattern_of_resolve hy hlow hhigh hp0 (hnp.imp_right fun h2 => ⟨h2, hp1 h2⟩), rfl⟩
  | mCountBoxes =>
    obtain ⟨hy, hbelow⟩ := h
    obtain ⟨y, hy⟩ := inside_iff_resolve.1 hy
    exact ⟨_, execMCountBoxes_of_resolve hy ((resolve_succ_lt_iff hy).2 hbelow), rfl⟩
  | mAssertDrawn => exact ⟨_, execMAssertDrawn_of_drawn h, rfl⟩
  | mPenalty =>
    obtain ⟨⟨hheight, hwidth⟩, hdrawn⟩ := h
    exact ⟨_, execMPenalty_of_drawn hheight hwidth hdrawn, rfl⟩
  | rRaw =>
    obtain ⟨⟨hlow, hhigh⟩, hbpp, hdims, hdrawn, hlen⟩ := h
    exact ⟨_, execRRaw_arms hlow hhigh hbpp hdims hdrawn hlen, rfl⟩
  | rGif =>
    obtain ⟨⟨hlow, hhigh⟩, hdims, hdrawn, hside, hlen⟩ := h
    exact ⟨_, execRGif_arms hlow hhigh hdims hdrawn hside hlen, rfl⟩
  | bFormat => exact ⟨_, execBFormat_of_args h.1 h.2, rfl⟩
  | bVersion => exact ⟨_, execBVersion_of_args h.1 h.2, rfl⟩
  | bFormatDecode =>
    obtain ⟨hc1, hc2, hleast⟩ := h
    exact bFormatDecode_completes hc1 hc2 hleast
  | bVersionDecode =>
    obtain ⟨hc1, hc2, hleast⟩ := h
    exact bVersionDecode_completes hc1 hc2 hleast
  | lTemplate =>
    obtain ⟨⟨hlow, hhigh⟩, hecc, hmask, htest⟩ := h
    exact ⟨_, execLTemplate_of_args hlow hhigh hecc hmask htest, rfl⟩
  | lReserve => exact ⟨_, execLReserve_of_args h.1 h.2, rfl⟩
  | lFormatRead => exact lFormatRead_completes (State.isSymbol_iff.2 h.1) h.2
  | lVersionRead => exact lVersionRead_completes (State.isSymbol_iff.2 h.1) h.2
  | lDraw =>
    obtain ⟨⟨hlow, hhigh⟩, hecc, hmask, hrange, hcap⟩ := h
    exact ⟨_, execLDraw_of_args hlow hhigh hecc hmask hrange hcap, rfl⟩
  | lRead =>
    obtain ⟨⟨hlow, hhigh⟩, hmask, hsize, hrange, hcap, hdefined⟩ := h
    exact ⟨_, execLRead_of_args hlow hhigh hmask hsize hrange hcap (List.all_eq_true.1 hdefined), rfl⟩
  | zStart => exact ⟨_, execZStart_of_symbol h.1 (State.isSymbol_iff.2 h.2), rfl⟩
  | zNext => exact zNext_completes h
  | zPut =>
    obtain ⟨hbit, hvalid, hdone⟩ := h
    exact ⟨_, execZPut_of_cell hvalid hdone hbit, by simp⟩
  | zGet =>
    obtain ⟨hvalid, hdone, hdefined⟩ := h
    exact ⟨_, execZGet_of_cell hvalid hdone hdefined, rfl⟩
  | lMaskApply => exact ⟨_, execLMaskApply_of_args h, rfl⟩
  | lMaskBit =>
    obtain ⟨hmask, hx, hy⟩ := h
    exact ⟨_, execLMaskBit_of_args hmask hx hy, rfl⟩

end

/-- Settles O7: the command ends at the success end of its writes or at its error end, and its row of the table says when it may
raise. -/
theorem everyCommandEnds : Obligations.EveryCommandEnds := by
  intro i s
  obtain ⟨t, h⟩ := exec_ends i s
  obtain ⟨hbusy, hdone, hirq⟩ := exec_leaves_done h
  exact ⟨t, h, hbusy, hdone, fun _ => exec_status_of_no_error h,
    fun hfirst hrs hpe => (State.completes_of_firstError_eq_none hfirst hrs hpe).err_eq h,
    (State.irq_of_done hdone).trans hirq, fun _ => State.irq_writeStatus, State.irq_accept⟩

end Sys2Proof.Machine
end

section
/-! PROOFS of the statements on the resets (70_reset_and_hazards.md R521 to R523). A soft reset writes the named state and leaves
DRAM and the planes to the command it abandons; what that command could write is its range of DRAM and the plane bits its effects
name (log entry 11). -/

namespace Sys2Proof.Machine

section
variable {s : State} {i : Instr}

/-! ### A host write to CTRL (10_state.md R33) -/

theorem State.hostWrite_ctrl (s : State) (d : Word) : s.hostWrite 1#14 0xF#4 d = .next (s.writeCtrl d) := by
  cases hb : s.status.busy with
  | true => exact State.hostWrite_busy _ _ _ hb
  | false => exact State.hostWrite_idle _ _ _ hb

theorem State.writeCtrl_of_no_reset {d : Word} (hd : d.getLsbD 1 = false) : s.writeCtrl d = { s with irqEn := d.getLsbD 0 } := by
  rw [State.writeCtrl, hd, if_neg Bool.false_ne_true]

theorem State.writeCtrl_reset_idle {d : Word} (hb : s.status.busy = false) (hd : d.getLsbD 1 = true) :
    s.writeCtrl d = s.softReset := by
  rw [State.writeCtrl, if_pos hd, hb, if_neg Bool.false_ne_true]

theorem State.writeCtrl_reset_busy {d : Word} (hb : s.status.busy = true) (hd : d.getLsbD 1 = true) :
    s.writeCtrl d = s.abandon.softReset := by
  rw [State.writeCtrl, if_pos hd, if_pos hb]

/-! ### What an abandoned command could write (R523) -/

theorem State.freeDram_read_of_outside {a n x : Nat} (hx : x < a ∨ a + n ≤ x) :
    Memory.read (s.freeDram a n).dram x = Memory.read s.dram x :=
  Memory.read_write_of_outside _ _ _ _ (by simpa using hx)

/-- Clipping a range to DRAM adds nothing to it. -/
theorem clipRange_le (r : Nat × Nat) : (clipRange r).2 ≤ r.2 := Nat.min_le_left _ _

@[simp] theorem State.freePlanes_dram (s : State) (r : PlaneReach) : (s.freePlanes r).dram = s.dram := by cases r <;> rfl

theorem State.freePlanes_matrix {r : PlaneReach} (hr : r = .none ∨ r = .reserve) :
    (s.freePlanes r).dplane = s.dplane ∧ (s.freePlanes r).vplane = s.vplane := by
  obtain rfl | rfl := hr <;> exact ⟨rfl, rfl⟩

theorem State.freePlanes_rplane {r : PlaneReach} (hr : r = .none ∨ r = .window) : (s.freePlanes r).rplane = s.rplane := by
  obtain rfl | rfl := hr <;> rfl

theorem State.freePlanes_get_of_outside {r : PlaneReach} (hr : r ≠ .whole) {x y : Nat}
    (hout : ¬ (x < s.width ∧ y < s.height)) :
    Plane.get (s.freePlanes r).dplane x y = Plane.get s.dplane x y ∧
      Plane.get (s.freePlanes r).vplane x y = Plane.get s.vplane x y := by
  cases r with
  | none | reserve => exact ⟨rfl, rfl⟩
  | window => exact ⟨Plane.get_mergeOn_of_outside _ _ _ hout, Plane.get_mergeOn_of_outside _ _ _ hout⟩
  | whole => exact absurd rfl hr

/-- The plane bits in reach of a command are those of the planes its effects name. -/
theorem planeReach_eq (i : Instr) :
    planeReach i =
      if (effects i).dims then .whole else if (effects i).rsv then .reserve else if (effects i).matrix then .window else .none := by
  cases i <;> rfl

/-- The commands that set H and W write RSV too (10_state.md R47). -/
theorem effects_rsv_of_dims (hd : (effects i).dims = true) : (effects i).rsv = true := by
  cases i <;> simp_all [effects]

theorem planeReach_ne_whole (hd : (effects i).dims = false) : planeReach i ≠ .whole := by
  rw [planeReach_eq, hd]
  cases (effects i).rsv <;> cases (effects i).matrix <;> decide

theorem planeReach_of_no_matrix (hm : (effects i).matrix = false) : planeReach i = .none ∨ planeReach i = .reserve := by
  have hd : (effects i).dims = false := Bool.eq_false_iff.2 fun hd => nomatch hm.symm.trans (effects_matrix_of_dims hd)
  rw [planeReach_eq, hd, hm]
  cases (effects i).rsv <;> decide

theorem planeReach_of_no_rsv (hr : (effects i).rsv = false) : planeReach i = .none ∨ planeReach i = .window := by
  have hd : (effects i).dims = false := Bool.eq_false_iff.2 fun hd => nomatch hr.symm.trans (effects_rsv_of_dims hd)
  rw [planeReach_eq, hd, hr]
  cases (effects i).matrix <;> decide

/-! ### The abandoned command's frame (R523) -/

theorem State.abandon_of_illegal {e : DecodeError} (h : decode s.cmd = .error e) : s.abandon = s := by
  rw [State.abandon, h]

theorem State.abandon_of_decoded (h : decode s.cmd = .ok i) :
    s.abandon = (s.freeDram (clipRange (s.dramReach i)).1 (clipRange (s.dramReach i)).2).freePlanes (planeReach i) := by
  rw [State.abandon, h]

theorem State.abandon_read_of_outside (h : decode s.cmd = .ok i) {a : Nat}
    (ha : a < (s.dramReach i).1 ∨ (s.dramReach i).1 + (s.dramReach i).2 ≤ a) :
    Memory.read s.abandon.dram a = Memory.read s.dram a := by
  have hclip := clipRange_le (s.dramReach i)
  have hbase : (clipRange (s.dramReach i)).1 = (s.dramReach i).1 := rfl
  rw [State.abandon_of_decoded h, State.freePlanes_dram]
  exact State.freeDram_read_of_outside (by omega)

theorem State.abandon_matrix (h : decode s.cmd = .ok i) (hm : (effects i).matrix = false) :
    s.abandon.dplane = s.dplane ∧ s.abandon.vplane = s.vplane := by
  rw [State.abandon_of_decoded h]
  exact State.freePlanes_matrix (planeReach_of_no_matrix hm)

theorem State.abandon_rplane (h : decode s.cmd = .ok i) (hr : (effects i).rsv = false) : s.abandon.rplane = s.rplane := by
  rw [State.abandon_of_decoded h]
  exact State.freePlanes_rplane (planeReach_of_no_rsv hr)

theorem State.abandon_get_of_outside (h : decode s.cmd = .ok i) (hd : (effects i).dims = false) {x y : Nat}
    (hout : ¬ (x < s.width ∧ y < s.height)) :
    Plane.get s.abandon.dplane x y = Plane.get s.dplane x y ∧ Plane.get s.abandon.vplane x y = Plane.get s.vplane x y := by
  rw [State.abandon_of_decoded h]
  exact State.freePlanes_get_of_outside (planeReach_ne_whole hd) hout

end

/-! ### The resets settled -/

/-- Settles O16: the soft reset writes the named state alone, so the rest is the frame of the abandoned command. -/
theorem softResetInFlight : Obligations.SoftResetInFlight := by
  intro s d hb hd
  refine ⟨s.abandon.softReset, ?_, rfl, rfl, rfl, fun _ => Vector.getElem_replicate _, fun _ => Vector.getElem_replicate _,
    rfl, rfl, fun _ => Vector.getElem_replicate _, rfl, rfl, rfl, rfl, fun e he => ?_, fun i hi => ?_⟩
  · rw [State.hostWrite_ctrl, State.writeCtrl_reset_busy hb hd]
  · rw [State.abandon_of_illegal he]
    exact ⟨rfl, rfl, rfl, rfl⟩
  · exact ⟨fun _ => State.abandon_read_of_outside hi, State.abandon_matrix hi, State.abandon_rplane hi,
      fun hdims _ _ => State.abandon_get_of_outside hi hdims⟩

/-- Settles O14: the register words of a state whose fields are 0, and the two reads that say what SDATA and ID hold. -/
theorem powerOnReset : Obligations.PowerOnReset := by
  have hsdata : (State.reset.hostRead sdataOffset).rdata = 0#32 := by
    rw [State.hostRead_sdata rfl, State.readSdata_empty rfl]
    rfl
  have hid : (State.reset.hostRead 0#14).rdata = 0x51524301#32 := by
    rw [State.hostRead_id]
    rfl
  exact ⟨rfl, rfl, rfl, fun _ => Vector.getElem_replicate _, fun _ => Vector.getElem_replicate _, rfl, rfl, rfl, rfl, rfl, rfl,
    fun _ => Vector.getElem_replicate _, rfl, hsdata, hid⟩

/-- Settles O15: a CTRL write without its strobes, one without SRST, and the reset of an idle block, which leaves
DRAM and the planes as they are. -/
theorem softReset : Obligations.SoftReset := by
  intro s be d
  refine ⟨fun hbe => State.hostWrite_partial _ d hbe (.inl rfl), fun hd => ?_, fun hb hd => ⟨s.softReset, ?_, rfl, rfl, rfl,
    fun _ => Vector.getElem_replicate _, fun _ => Vector.getElem_replicate _, rfl, rfl, fun _ => Vector.getElem_replicate _,
    rfl, rfl, rfl, rfl, rfl, rfl, rfl, rfl⟩⟩
  · rw [State.hostWrite_ctrl, State.writeCtrl_of_no_reset hd]
  · rw [State.hostWrite_ctrl, State.writeCtrl_reset_idle hb hd]

end Sys2Proof.Machine
end
